-- ==== Sys2Proof/Word.lean ====
section
/-! DEFINITION. The word types of OWPE and its integer arithmetic (spec/00_scope.md R7, R8). -/

namespace Sys2Proof

/-- One colour component, "8-bit each" (spec/10_state.md R21). -/
abbrev Byte := BitVec 8

/-- A command word: bits 63..0, bit 0 the least significant (spec/00_scope.md R7, spec/30_encoding.md R70). -/
abbrev CmdWord := BitVec 64

/-- A response word or a register of the read bank: bits 31..0 (spec/30_encoding.md R80, spec/10_state.md R33). -/
abbrev Reg32 := BitVec 32

/-- A duration field of a pulse item, in ticks: DUR_BITS = 15 (spec/00_scope.md R6, spec/10_state.md R23). -/
abbrev Duration := BitVec 15

end Sys2Proof
end

