-- ==== Sys2Proof/Syntax.lean ====
section
/-! DEFINITION. The five commands of OWPE (spec/opcode_table.json, spec/30_encoding.md R72).
The operand types are exactly the fields of R71, so an `Instr` cannot hold an operand that does not fit. -/

namespace Sys2Proof

/-- A command with its operands (spec/30_encoding.md R75). -/
inductive Instr where
  /-- CONFIGURE variant, div, count, clk_hz (spec/40_configure.md R100). -/
  | configure (variant : BitVec 4) (div : BitVec 8) (count : BitVec 16) (clkHz : BitVec 32)
  /-- SET_PIXEL index, r, g, b (spec/41_set_pixel.md R130). -/
  | setPixel (index : BitVec 16) (r g b : Byte)
  /-- REFRESH (spec/42_refresh_encoder.md R150). -/
  | refresh
  /-- CLEAR (spec/43_clear_release.md R200). -/
  | clear
  /-- RELEASE (spec/43_clear_release.md R202). -/
  | release
  deriving DecidableEq, Repr

end Sys2Proof
end

