-- ==== Sys2Proof/WellFormed.lean ====
section
/-! DEFINITION. The assembler notation of spec/30_encoding.md R79, with naturals for operands, and its
well-formedness: "an operand that does not fit its field is an assembly error, not an encoding".
A decoded `Instr` has no ill-formed term: its operand types are the fields themselves. -/

namespace Sys2Proof

/-- One line of the notation of R79: the five commands, the two pseudo-instructions, the two HOST reads. -/
inductive AsmLine where
  | configure (variant div count clkHz : Nat)
  | setpix (index r g b : Nat)
  /-- SETRGB index, 0xRRGGBB -/
  | setrgb (index rgb : Nat)
  | refresh
  | clear
  | release
  /-- .word64 imm -/
  | word64 (imm : Nat)
  /-- READ sel -/
  | read (sel : Nat)
  /-- WAITRESP -/
  | waitResp
  deriving DecidableEq, Repr

/-- Every operand fits its field (R71, R79, R82). -/
def AsmLine.wellFormed : AsmLine → Bool
  | .configure variant div count clkHz =>
      variant < 2 ^ 4 && div < 2 ^ 8 && count < 2 ^ 16 && clkHz < 2 ^ 32
  | .setpix index r g b => index < 2 ^ 16 && r < 2 ^ 8 && g < 2 ^ 8 && b < 2 ^ 8
  | .setrgb index rgb => index < 2 ^ 16 && rgb < 2 ^ 24
  | .refresh => true
  | .clear => true
  | .release => true
  | .word64 imm => imm < 2 ^ 64
  | .read sel => sel < 2 ^ 4
  | .waitResp => true

end Sys2Proof
end

