-- ==== Sys2Proof/Decode.lean ====
section
/-! DEFINITION. Decoding and encoding of the 64-bit command word (spec/30_encoding.md R70 to R79).
`decode` is total; `none` is an illegal word (R76), which the machine answers with InvalidArgument. -/

namespace Sys2Proof

/-! ### Fields (R71) -/

/-- OP = W[63:60]. -/
def fieldOp (w : CmdWord) : BitVec 4 := w.extractLsb' 60 4

/-- VAR = W[59:56]. -/
def fieldVar (w : CmdWord) : BitVec 4 := w.extractLsb' 56 4

/-- DV = W[55:48]. -/
def fieldDv (w : CmdWord) : BitVec 8 := w.extractLsb' 48 8

/-- IDX = W[47:32]. -/
def fieldIdx (w : CmdWord) : BitVec 16 := w.extractLsb' 32 16

/-- HI = W[31:24]. -/
def fieldHi (w : CmdWord) : BitVec 8 := w.extractLsb' 24 8

/-- R = W[23:16]. -/
def fieldR (w : CmdWord) : Byte := w.extractLsb' 16 8

/-- G = W[15:8]. -/
def fieldG (w : CmdWord) : Byte := w.extractLsb' 8 8

/-- B = W[7:0]. -/
def fieldB (w : CmdWord) : Byte := w.extractLsb' 0 8

/-- CLK = W[31:0], CONFIGURE's clock frequency. -/
def fieldClk (w : CmdWord) : BitVec 32 := w.extractLsb' 0 32

/-! ### Decoding (R73, R74, R75) -/

/-- A word selects the command of a row iff `(W & mask) = match` (R73). -/
def rowSelects (pattern mask : CmdWord) (w : CmdWord) : Bool := w &&& mask == pattern

/-- The row of CONFIGURE (R73). -/
def selectsConfigure (w : CmdWord) : Bool := rowSelects 0x1000000000000000 0xF000000000000000 w

/-- The row of SET_PIXEL (R73). -/
def selectsSetPixel (w : CmdWord) : Bool := rowSelects 0x2000000000000000 0xFFFF0000FF000000 w

/-- The row of REFRESH (R73). -/
def selectsRefresh (w : CmdWord) : Bool := rowSelects 0x3000000000000000 0xFFFFFFFFFFFFFFFF w

/-- The row of CLEAR (R73). -/
def selectsClear (w : CmdWord) : Bool := rowSelects 0x4000000000000000 0xFFFFFFFFFFFFFFFF w

/-- The row of RELEASE (R73). -/
def selectsRelease (w : CmdWord) : Bool := rowSelects 0x5000000000000000 0xFFFFFFFFFFFFFFFF w

/-- The command a word selects, with its operands assembled (R74, R75); `none` for an illegal word (R76).
At most one row matches, so the order of the tests does not matter (R73). -/
def decode (w : CmdWord) : Option Instr :=
  if selectsConfigure w then some (.configure (fieldVar w) (fieldDv w) (fieldIdx w) (fieldClk w))
  else if selectsSetPixel w then some (.setPixel (fieldIdx w) (fieldR w) (fieldG w) (fieldB w))
  else if selectsRefresh w then some .refresh
  else if selectsClear w then some .clear
  else if selectsRelease w then some .release
  else none

/-- The instruction the decoder reads from a word given as a number: OWPE has one command length, 64 bits,
transferred as one unit (R56, R70); bits at and above `nbits` are zero. -/
def decodeTableWord (nbits w : Nat) : Option Instr := decode (BitVec.ofNat 64 (w % 2 ^ nbits))

/-! ### Encoding (R71 to R73) -/

/-- The opcode of a command (R72). -/
def Instr.opcode : Instr → BitVec 4
  | .configure _ _ _ _ => 0x1
  | .setPixel _ _ _ _ => 0x2
  | .refresh => 0x3
  | .clear => 0x4
  | .release => 0x5

/-- The word of a command: its fields side by side, OP first, the fields it does not use zero (R71). -/
def encode : Instr → CmdWord
  | .configure variant div count clkHz => (0x1 : BitVec 4) ++ variant ++ div ++ count ++ clkHz
  | .setPixel index r g b =>
      (0x2 : BitVec 4) ++ (0 : BitVec 4) ++ (0 : BitVec 8) ++ index ++ (0 : BitVec 8) ++ r ++ g ++ b
  | .refresh => 0x3000000000000000
  | .clear => 0x4000000000000000
  | .release => 0x5000000000000000

/-! ### Assembling (R79) -/

/-- The number a line of R79 stands for, by the formulas of R79's table; the two reads are no words. -/
def AsmLine.wordNat : AsmLine → Option Nat
  | .configure variant div count clkHz =>
      some (0x1 * 2 ^ 60 + variant * 2 ^ 56 + div * 2 ^ 48 + count * 2 ^ 32 + clkHz)
  | .setpix index r g b => some (0x2 * 2 ^ 60 + index * 2 ^ 32 + r * 2 ^ 16 + g * 2 ^ 8 + b)
  | .setrgb index rgb =>
      some (0x2 * 2 ^ 60 + index * 2 ^ 32 + rgb / 2 ^ 16 % 2 ^ 8 * 2 ^ 16 + rgb / 2 ^ 8 % 2 ^ 8 * 2 ^ 8
        + rgb % 2 ^ 8)
  | .refresh => some 0x3000000000000000
  | .clear => some 0x4000000000000000
  | .release => some 0x5000000000000000
  | .word64 imm => some imm
  | .read _ => none
  | .waitResp => none

/-- The command word of a line: only a well-formed line has one. -/
def AsmLine.word (l : AsmLine) : Option CmdWord :=
  if l.wellFormed then l.wordNat.map (BitVec.ofNat 64) else none

end Sys2Proof
end

