-- ==== Sys2Proof/Config.lean ====
section
/-! DEFINITION. The implementation parameters of spec/00_scope.md R6 and the model's free values.
A parameter the spec marks OPEN, and every draw, is an opaque constant: no proof can see its value. -/

namespace Sys2Proof

/-- The nominal nanosecond targets (T0H, T0L, T1H, T1L) of one protocol variant (spec/40_configure.md R104). -/
structure NsTargets where
  t0h : Nat
  t0l : Nat
  t1h : Nat
  t1l : Nat
  deriving DecidableEq, Repr, Inhabited

/-- A component of a pixel (spec/20_memory.md R51). -/
inductive Component where
  | r
  | g
  | b
  deriving DecidableEq, Repr, Inhabited

/-- A permutation of (r, g, b): the order in which a pixel's components go out (spec/20_memory.md R53).
The first letter of a constructor is the component sent first. -/
inductive ChannelOrder where
  | rgb
  | rbg
  | grb
  | gbr
  | brg
  | bgr
  deriving DecidableEq, Repr, Inhabited

/-! ### Parameters with a value (spec/00_scope.md R6; log entry 17) -/

/-- N_MAX, the largest LED count CONFIGURE accepts. -/
def Config.nMax : Nat := 65535

/-- DUR_MAX = 2^15 - 1, the largest duration of a pulse item. -/
def Config.durMax : Nat := 32767

/-- DIV_MAX, the largest clock divisor. -/
def Config.divMax : Nat := 255

/-- NS(0), the targets of the APA104 class (spec/40_configure.md R104). -/
def Config.ns0 : NsTargets := ⟨350, 1360, 1360, 350⟩

/-- RESET_NS, the minimum reset duration, in nanoseconds. -/
def Config.resetNs : Nat := 50000

/-- TIMEOUT_FLOOR_MS, the lower bound of the transmit timeout, in milliseconds. -/
def Config.timeoutFloorMs : Nat := 100

/-- BITS_PER_PIXEL, the bits of one pixel on the wire. -/
def Config.bitsPerPixel : Nat := 24

/-! ### OPEN parameters (spec/00_scope.md R6; log entry 16) -/

/-- CHANNEL, the pin/channel identity of the instance (spec/00_scope.md R3): an opaque identifier. -/
opaque Config.channel : Nat

/-- WS_NS, the targets of VARIANT 1 (spec/40_configure.md R104). -/
opaque Config.wsNs : NsTargets

/-- CHANNEL_ORDER (spec/20_memory.md R53). -/
opaque Config.channelOrder : ChannelOrder

/-- ISOLATED: whether the deployment requirement on jitter is met (spec/70_reset_and_hazards.md R255). -/
opaque Config.isolated : Bool

/-- TIMED: whether the timer follows the timed reference (spec/42_refresh_encoder.md R169). -/
opaque Config.timed : Bool

/-! ### Free values: the draws of the agents, one for each value of a counter -/

/-- Which of the agents that have a step takes the next one (spec/60_exceptions.md R228; log entry 3). -/
opaque Config.pick : Nat → Nat

/-- The grant TRANSPORT gives a frame, any natural below 2^32 (spec/42_refresh_encoder.md R160; log entry 6). -/
opaque Config.grant : Nat → Reg32

/-- The length of a jitter gap less 1, in ticks (spec/42_refresh_encoder.md R165; log entry 7). -/
opaque Config.gapTicks : Nat → Nat

/-- How many jitter gaps a frame may have, a finite number (spec/42_refresh_encoder.md R165; log entry 7). -/
opaque Config.gapBudget : Nat → Nat

end Sys2Proof
end

