-- ==== Sys2Proof/Machine/State.lean ====
section
/-! DEFINITION. The state of one OWPE instance (spec/10_state.md R20), the world outside it that a step
depends on, its value at reset (R38), and the reasons a step can stop. -/

namespace Sys2Proof.Machine

/-- LIFE, the lifecycle of the strip (R20). -/
inductive Life where
  | unconfigured
  | active
  | released
  | failed
  deriving DecidableEq, Repr

/-- The level of the data line (R31). -/
inductive Level where
  | low
  | high
  deriving DecidableEq, Repr

/-- One entry of the pixel buffer, an RGBColor (R21). -/
structure Pixel where
  r : Byte
  g : Byte
  b : Byte
  deriving DecidableEq, Repr

/-- One pulse item: high for `h` ticks, then low for `l` ticks (spec/30_encoding.md R83). -/
structure PulseItem where
  h : Duration
  l : Duration
  deriving DecidableEq, Repr

/-- The tick-constant file (R23). -/
structure TickFile where
  t0h : Duration
  t0l : Duration
  t1h : Duration
  t1l : Duration
  trst : Duration
  timeoutMs : Reg32
  deriving DecidableEq, Repr

/-- The commands that can stand in PEND (R28). -/
inductive PendOp where
  | refresh
  | clear
  | release
  deriving DecidableEq, Repr

/-- PEND's record: the command accepted and not yet answered, and whether its frame has started (R28). -/
structure Pending where
  op : PendOp
  started : Bool
  deriving DecidableEq, Repr

/-- An event of the wire history (spec/42_refresh_encoder.md R164, R165): an emitted item or a jitter gap. -/
inductive WireEvent where
  | item (channel : Nat) (h l : Duration)
  | gap (channel : Nat) (d : Nat)
  deriving DecidableEq, Repr

/-- The reasons of a model fault (spec/60_exceptions.md R224). -/
inductive FaultReason where
  /-- A legal word other than CONFIGURE while LIFE = UNCONFIGURED. -/
  | useBeforeConfigure
  /-- A legal CONFIGURE word while LIFE = ACTIVE. -/
  | reconfigure
  /-- Any word while LIFE = RELEASED. -/
  | useAfterRelease
  /-- Any word while LIFE = FAILED. -/
  | useAfterInitFailure
  deriving DecidableEq, Repr

/-- What HOST can do (spec/00_scope.md R11; log entry 4). -/
inductive HostAct where
  /-- Write a word to the command port (spec/30_encoding.md R70). -/
  | write (w : CmdWord)
  /-- Read the response port (R29). -/
  | waitResp
  /-- Read the read bank at a select (spec/30_encoding.md R82). -/
  | read (sel : BitVec 4)
  deriving DecidableEq, Repr

/-- What a read has returned to HOST (log entry 4). -/
inductive HostSeen where
  | resp (w : Reg32)
  | bank (sel : BitVec 4) (w : Reg32)
  deriving DecidableEq, Repr

/-- The free values the next step may use (log entries 3, 6, 7, 8). -/
structure Draws where
  /-- The counter the opaque functions of Config are applied to. -/
  serial : Nat
  /-- Which of the agents that have a step takes it (spec/60_exceptions.md R228). -/
  pick : Nat
  /-- G, the grant of a frame that starts in this step (spec/42_refresh_encoder.md R160). -/
  grant : Reg32
  /-- The length, less 1, of a gap held in this step (spec/42_refresh_encoder.md R165). -/
  gapTicks : Nat
  /-- How many gaps a frame that starts in this step may have (spec/42_refresh_encoder.md R165). -/
  gapBudget : Nat
  deriving DecidableEq, Repr

/-- Why a step stops. Every constructor is safe: the model stops where the spec gives no step, so no claim
about what follows can be proved. -/
inductive Fault where
  /-- Raised by `step` in a state whose FAULT holds a reason and no block reset is due: such a state
  "has no step of any agent" (R30). Safe. -/
  | model (r : FaultReason)
  /-- Raised by `exec` when the command port is not ready, so HOST has no step that writes a word
  (spec/30_encoding.md R70). `step` never raises it. Safe. -/
  | portNotReady
  /-- Raised by `step` when no agent has a step and HOST wants to write a word: "it is stuck, not dropped"
  (spec/70_reset_and_hazards.md R257). Safe. -/
  | hostStuck
  /-- Raised by the emission step when FLEN promises an item that ITEMS does not hold. The invariant
  `Inv` (Sys2Proof/Safety.lean) excludes it (R26: FLEN = length(ITEMS)). Safe. -/
  | noItem
  deriving DecidableEq, Repr

/-- Why an instruction has no meaning. -/
inductive Refusal where
  /-- Raised by `exec` for an instruction whose meaning has not been written; no arm of `exec` does so. Safe. -/
  | notModelled (mnemonic : String)
  deriving DecidableEq, Repr

/-- The state record of R20, the further state R37 and R164 name (`elapsed`, `wire`), and the model's own
fields for the world outside the block (`host`, `seen`, `resets`, `gapsLeft`, `draws`). -/
structure State where
  /-- LIFE -/
  life : Life
  /-- BUSY: a frame is in flight on the data line. -/
  busy : Bool
  /-- VARIANT -/
  variant : BitVec 4
  /-- DIV -/
  div : BitVec 8
  /-- CLK_HZ -/
  clkHz : BitVec 32
  /-- N, the LED count. -/
  n : BitVec 16
  /-- T0H, T0L, T1H, T1L, TRST, TIMEOUT_MS (R23). -/
  ticks : TickFile
  /-- BUF, the pixel buffer: N entries (R21). -/
  buf : List Pixel
  /-- SNAP, the snapshot of the frame in flight (R25). -/
  snap : List Pixel
  /-- ITEMS, the items the frame in flight emits (R26). -/
  items : List PulseItem
  /-- FPOS, the number of items already emitted (R26). -/
  fpos : Reg32
  /-- FLEN, the length of ITEMS (R26). -/
  flen : Reg32
  /-- GRANT, the slots TRANSPORT granted (R26). -/
  grant : Reg32
  /-- REQ_BYTES, the byte count the framer requested (R26). -/
  reqBytes : Reg32
  /-- LAST_SF, the shortfall of the frame in flight or the last frame (R32). -/
  lastSf : Bool
  /-- PEND (R28). -/
  pend : Option Pending
  /-- RESP (R29). -/
  resp : Option Reg32
  /-- LINE (R31). -/
  line : Level
  /-- FAULT (R30). -/
  fault : Option FaultReason
  /-- The TIMER's elapsed time, in ticks (R37, spec/42_refresh_encoder.md R169; log entry 9). -/
  elapsed : Nat
  /-- The wire history, oldest event first (spec/42_refresh_encoder.md R164; log entry 10). -/
  wire : List WireEvent
  /-- The model's own: what HOST is still to do (log entry 4). -/
  host : List HostAct
  /-- The model's own: what HOST's reads have returned, oldest first (log entry 4). -/
  seen : List HostSeen
  /-- The model's own: the block resets still to come (spec/70_reset_and_hazards.md R250; log entry 5). -/
  resets : Nat
  /-- The model's own: the gaps the frame in flight may still have (log entry 7). -/
  gapsLeft : Nat
  /-- The model's own: the free values of the next step (log entry 8). -/
  draws : Draws
  deriving DecidableEq, Repr

/-- The machine right after reset (R38), at power-on: no model fault (log entry 12), nothing on the wire,
HOST with nothing to do. -/
def State.reset : State where
  life := .unconfigured
  busy := false
  variant := 0
  div := 0
  clkHz := 0
  n := 0
  ticks := ⟨0, 0, 0, 0, 0, 0⟩
  buf := []
  snap := []
  items := []
  fpos := 0
  flen := 0
  grant := 0
  reqBytes := 0
  lastSf := false
  pend := none
  resp := none
  line := .low
  fault := none
  elapsed := 0
  wire := []
  host := []
  seen := []
  resets := 0
  gapsLeft := 0
  draws := ⟨0, 0, 0, 0, 0⟩

end Sys2Proof.Machine
end

