-- ==== Sys2Proof/Machine/Operands.lean ====
section
/-! DEFINITION. Pixels, components and the pixel byte space (spec/20_memory.md R50 to R52), and the one
arithmetic operation of spec/00_scope.md R8 that Lean does not have. No operand is ever scaled or signed
(spec/30_encoding.md R75), so an index is used as it stands in its field. -/

namespace Sys2Proof.Machine

/-- `ceil_div(a, b) = (a + b - 1) div b`, for `b ≥ 1` (spec/00_scope.md R8; log entry 21). -/
def ceilDiv (a b : Nat) : Nat := (a + b - 1) / b

/-- The black pixel (0, 0, 0). -/
def Pixel.zero : Pixel := ⟨0, 0, 0⟩

/-- One component of a pixel. -/
def Pixel.component (p : Pixel) : Component → Byte
  | .r => p.r
  | .g => p.g
  | .b => p.b

/-- A pixel with one component replaced. -/
def Pixel.setComponent (p : Pixel) (c : Component) (v : Byte) : Pixel :=
  match c with
  | .r => { p with r := v }
  | .g => { p with g := v }
  | .b => { p with b := v }

/-- Component `k` of a pixel in storage order: 0 is r, 1 is g, 2 is b (spec/20_memory.md R51). -/
def storageComponent (k : Nat) : Component :=
  if k = 0 then .r else if k = 1 then .g else .b

/-- The three components in the order they go out (spec/20_memory.md R53). -/
def wireComponents : ChannelOrder → List Component
  | .rgb => [.r, .g, .b]
  | .rbg => [.r, .b, .g]
  | .grb => [.g, .r, .b]
  | .gbr => [.g, .b, .r]
  | .brg => [.b, .r, .g]
  | .bgr => [.b, .g, .r]

/-- A pixel buffer of LED count `n` is in its one form: exactly `n` entries (spec/10_state.md R21; log entry 13). -/
abbrev Memory.wf (n : BitVec 16) (buf : List Pixel) : Prop := buf.length = n.toNat

/-- `MemRead(a, 1)` of the pixel byte space: component `a mod 3` of pixel `a div 3`; no byte at or above 3N
(spec/20_memory.md R51). -/
def memRead (buf : List Pixel) (a : Nat) : Option Byte :=
  (buf[a / 3]?).map fun p => p.component (storageComponent (a % 3))

/-- `MemWrite(a, 1, v)` of the pixel byte space (spec/00_scope.md R9). No command issues it; an address at or
above 3N names no byte, so there is nothing to write. -/
def memWrite (buf : List Pixel) (a : Nat) (v : Byte) : List Pixel :=
  buf.modify (a / 3) fun p => p.setComponent (storageComponent (a % 3)) v

/-- `BUF[i] <- p`: all 24 bits of one entry (spec/20_memory.md R57). -/
def bufWrite (buf : List Pixel) (i : Nat) (p : Pixel) : List Pixel := buf.set i p

/-- A buffer of `k` entries (0, 0, 0) (spec/40_configure.md R107). -/
def bufZero (k : Nat) : List Pixel := List.replicate k Pixel.zero

end Sys2Proof.Machine
end

