-- ==== Sys2Proof/Machine/Flags.lean ====
section
/-! DEFINITION. The two status flags and the words built from flags: the shortfall (spec/42_refresh_encoder.md
R162), STATUS.STATE (spec/10_state.md R35), the response word (spec/30_encoding.md R80, R81), and the read bank
(spec/10_state.md R33, R34). -/

namespace Sys2Proof.Machine

/-- A flag as one bit of a word. -/
def flagBit (f : Bool) : BitVec 1 := if f then 1 else 0

/-! ### Frame length and shortfall -/

/-- The items of a whole frame of `k` pixels: 24k + 2 (spec/42_refresh_encoder.md R158). -/
def frameLength (k : Nat) : Nat := 24 * k + 2

/-- The bytes the framer requests for `k` pixels: the payload and two phantom bytes (spec/42_refresh_encoder.md R159). -/
def requestBytes (k : Nat) : Nat := 3 * k + 2

/-- The frame falls short of its trailing reset iff `G < 24N + 2` (spec/42_refresh_encoder.md R162). -/
def shortfall (g k : Nat) : Bool := g < frameLength k

/-- The emitted prefix has `E = min(G, 24N + 2)` items (spec/42_refresh_encoder.md R161). -/
def emittedLength (g k : Nat) : Nat := min g (frameLength k)

/-- The reference transport's grant: 8 slots per requested byte (spec/42_refresh_encoder.md R160). -/
def referenceGrant (k : Nat) : Nat := 8 * requestBytes k

/-! ### The response word -/

/-- The results of spec/30_encoding.md R81. -/
inductive ResultCode where
  | ok
  | invalidArgument
  | deviceInitFailure
  | transmissionTimeout
  deriving DecidableEq, Repr

/-- CODE (spec/30_encoding.md R81). -/
def codeBits : ResultCode → BitVec 4
  | .ok => 0
  | .invalidArgument => 1
  | .deviceInitFailure => 2
  | .transmissionTimeout => 3

/-- The response word: CODE in [3:0], SF in [4], OPE in [11:8], every other bit 0 (spec/30_encoding.md R80). -/
def responseWord (code : ResultCode) (sf : Bool) (ope : BitVec 4) : Reg32 :=
  (0 : BitVec 20) ++ ope ++ (0 : BitVec 3) ++ flagBit sf ++ codeBits code

/-- OPE of a command that stands in PEND: its opcode (spec/30_encoding.md R72, R80). -/
def pendOpcode : PendOp → BitVec 4
  | .refresh => 0x3
  | .clear => 0x4
  | .release => 0x5

/-! ### The read bank -/

/-- STATUS.STATE (spec/10_state.md R35). -/
def statusState (s : State) : BitVec 3 :=
  match s.life with
  | .unconfigured => 0
  | .active => if s.busy then 2 else 1
  | .released => 3
  | .failed => 4

/-- STATUS: STATE in [2:0], LAST_SF in [3], WAITING in [4], RESP_FULL in [5] (spec/10_state.md R34). -/
def statusWord (s : State) : Reg32 :=
  (0 : BitVec 26) ++ flagBit s.resp.isSome ++ flagBit s.pend.isSome
    ++ flagBit (s.life == .active && s.lastSf) ++ statusState s

/-- A register of the bank shows its element while LIFE = ACTIVE, else 0 (spec/10_state.md R34). -/
def whileActive (s : State) (v : Reg32) : Reg32 := if s.life = .active then v else 0

/-- The 32-bit register at a select of the read port (spec/10_state.md R34, spec/30_encoding.md R82). -/
def readBank (s : State) (sel : BitVec 4) : Reg32 :=
  match sel.toNat with
  | 0x0 => statusWord s
  | 0x1 => whileActive s (s.ticks.t0h.setWidth 32)
  | 0x2 => whileActive s (s.ticks.t0l.setWidth 32)
  | 0x3 => whileActive s (s.ticks.t1h.setWidth 32)
  | 0x4 => whileActive s (s.ticks.t1l.setWidth 32)
  | 0x5 => whileActive s (s.ticks.trst.setWidth 32)
  | 0x6 => whileActive s s.ticks.timeoutMs
  | 0x7 => whileActive s (s.n.setWidth 32)
  | 0x8 => whileActive s (s.div.setWidth 32)
  | 0x9 => whileActive s s.clkHz
  | 0xA => whileActive s (s.variant.setWidth 32)
  | 0xB => whileActive s s.fpos
  | 0xC => whileActive s s.flen
  | 0xD => whileActive s s.grant
  | 0xE => whileActive s s.reqBytes
  | _ => 0

end Sys2Proof.Machine
end

