-- ==== Sys2Proof/Machine/Encoder.lean ====
section
/-! DEFINITION. The pulse encoder and the shape of a frame (spec/42_refresh_encoder.md R153 to R163, R172;
spec/20_memory.md R53, R54). -/

namespace Sys2Proof.Machine

/-! ### The encoder -/

/-- A logical 1 is (T1H, T1L), a logical 0 is (T0H, T0L) (R153). -/
def bitItem (t : TickFile) (x : Bool) : PulseItem :=
  if x then ⟨t.t1h, t.t1l⟩ else ⟨t.t0h, t.t0l⟩

/-- Exactly 8 items, most significant bit first (R154). -/
def byteItems (t : TickFile) (v : Byte) : List PulseItem :=
  [7, 6, 5, 4, 3, 2, 1, 0].map fun j => bitItem t (v.getLsbD j)

/-- The 24 items of a pixel, its components in CHANNEL_ORDER (R155). -/
def pixelItems (order : ChannelOrder) (t : TickFile) (p : Pixel) : List PulseItem :=
  (wireComponents order).flatMap fun c => byteItems t (p.component c)

/-- A reset pulse: no high phase, TRST low (R156). -/
def resetItem (t : TickFile) : PulseItem := ⟨0, t.trst⟩

/-- The whole frame of a snapshot: reset, pixels in ascending index order, reset (R157). -/
def frameItems (order : ChannelOrder) (t : TickFile) (snap : List Pixel) : List PulseItem :=
  [resetItem t] ++ snap.flatMap (pixelItems order t) ++ [resetItem t]

/-! ### The transport byte stream (spec/20_memory.md R54, R159) -/

/-- A position of the transport byte stream: a phantom byte carries no data. -/
inductive StreamByte where
  | phantom
  | payload (v : Byte)
  deriving DecidableEq, Repr

/-- The payload bytes in wire order (spec/20_memory.md R53). -/
def payloadBytes (order : ChannelOrder) (snap : List Pixel) : List Byte :=
  snap.flatMap fun p => (wireComponents order).map p.component

/-- The 3N + 2 positions the framer presents to TRANSPORT (spec/20_memory.md R54). -/
def byteStream (order : ChannelOrder) (snap : List Pixel) : List StreamByte :=
  [.phantom] ++ (payloadBytes order snap).map .payload ++ [.phantom]

/-- The framer's translation of one position (R159). -/
def translateByte (t : TickFile) : StreamByte → List PulseItem
  | .phantom => [resetItem t]
  | .payload v => byteItems t v

/-! ### Durations and the waveform (R163, R172) -/

/-- The ticks an item lasts. -/
def itemTicks (it : PulseItem) : Nat := it.h.toNat + it.l.toNat

/-- The ticks a list of items lasts without gaps (R172). -/
def itemsTicks (items : List PulseItem) : Nat := (items.map itemTicks).sum

/-- The ticks a wire event lasts. -/
def wireTicks : WireEvent → Nat
  | .item _ h l => h.toNat + l.toNat
  | .gap _ d => d

/-- A level held for some ticks; nothing for 0 ticks. -/
def hold (level : Level) (d : Nat) : List (Level × Nat) := if d = 0 then [] else [(level, d)]

/-- `emit(h, l)`: high for h ticks and then low for l ticks; a gap is low (R163, R165). -/
def waveform : WireEvent → List (Level × Nat)
  | .item _ h l => hold .high h.toNat ++ hold .low l.toNat
  | .gap _ d => hold .low d

/-- The items among the events of a wire history, in order. -/
def wireItems (events : List WireEvent) : List PulseItem :=
  events.filterMap fun e => match e with
    | .item _ h l => some ⟨h, l⟩
    | .gap _ _ => none

end Sys2Proof.Machine
end

