-- ==== Sys2Proof/Machine/Ops.lean ====
section
/-! DEFINITION. The shared operations on the state: the command port, a response, a model fault (OWPE's only
"exception", spec/60_exceptions.md R224, R229: nothing is saved and nothing returns), the frame start, the
release, and the block reset. -/

namespace Sys2Proof.Machine

/-! ### The command port -/

/-- The port takes a word iff PEND, RESP and FAULT are none (spec/30_encoding.md R70). -/
def portReady (s : State) : Bool := s.pend.isNone && s.resp.isNone && s.fault.isNone

/-- `respond(code, sf)` for a command with opcode `ope`: RESP holds the word, PEND is none
(spec/30_encoding.md R78, R80). -/
def respond (code : ResultCode) (sf : Bool) (ope : BitVec 4) (s : State) : State :=
  { s with pend := none, resp := some (responseWord code sf ope) }

/-- `raise Fault(reason)`: FAULT holds the reason, no response is placed (spec/60_exceptions.md R224; log entry 1). -/
def raiseFault (r : FaultReason) (s : State) : State := { s with fault := some r }

/-- A command accepted by a ready port; on any other the word cannot be written (spec/30_encoding.md R70; log entry 14). -/
def accept (s : State) (k : State → State) : Host.Outcome State Fault Refusal :=
  if portReady s then .next (k s) else .fault .portNotReady

/-- The LIFE checks of a legal word other than CONFIGURE (spec/30_encoding.md R74). -/
def whenActive (s : State) (k : State → State) : State :=
  match s.life with
  | .active => k s
  | .unconfigured => raiseFault .useBeforeConfigure s
  | .released => raiseFault .useAfterRelease s
  | .failed => raiseFault .useAfterInitFailure s

/-- The LIFE checks of a legal CONFIGURE word (spec/30_encoding.md R74). -/
def whenUnconfigured (s : State) (k : State → State) : State :=
  match s.life with
  | .unconfigured => k s
  | .active => raiseFault .reconfigure s
  | .released => raiseFault .useAfterRelease s
  | .failed => raiseFault .useAfterInitFailure s

/-- An illegal word: a fault after RELEASE or a failed CONFIGURE, else InvalidArgument with SF = 0 and
OPE = W[63:60] (spec/30_encoding.md R74, R76, R80). -/
def illegalWord (ope : BitVec 4) (s : State) : State :=
  match s.life with
  | .released => raiseFault .useAfterRelease s
  | .failed => raiseFault .useAfterInitFailure s
  | .unconfigured => respond .invalidArgument false ope s
  | .active => respond .invalidArgument false ope s

/-! ### Pending commands and frames -/

/-- PEND holds the command, its frame not started (spec/42_refresh_encoder.md R150, spec/43_clear_release.md R200, R202). -/
def startPending (op : PendOp) (s : State) : State := { s with pend := some ⟨op, false⟩ }

/-- TIMER starts measuring (spec/42_refresh_encoder.md R150, R169). -/
def startTimer (s : State) : State := { s with elapsed := 0 }

/-- `frame_start()` for a component order: one atomic step (spec/42_refresh_encoder.md R152). -/
def frameStartIn (order : ChannelOrder) (s : State) : State :=
  { s with
    snap := s.buf
    reqBytes := BitVec.ofNat 32 (requestBytes s.n.toNat)
    grant := s.draws.grant
    items := (frameItems order s.ticks s.buf).take (emittedLength s.draws.grant.toNat s.n.toNat)
    flen := BitVec.ofNat 32 (emittedLength s.draws.grant.toNat s.n.toNat)
    fpos := 0
    lastSf := shortfall s.draws.grant.toNat s.n.toNat
    pend := s.pend.map fun p => { p with started := true }
    busy := true
    gapsLeft := s.draws.gapBudget }

/-- `frame_start()` of this instance: the components in its CHANNEL_ORDER. -/
def frameStart (s : State) : State := frameStartIn Config.channelOrder s

/-- The frame starts at once when none is in flight; else it waits (spec/42_refresh_encoder.md R150, R151). -/
def frameStartIfIdle (s : State) : State := if s.busy then s else frameStart s

/-- Every element RELEASE frees (spec/43_clear_release.md R202). R202 sets LAST_SF to 0 as RELEASE's own effect; that
this write is not the "side effect" spec/10_state.md R32 denies is the model's reading (DESIGN CHOICE; log entry 22).
R202 empties BUF and clears the configuration and the tick constants, where spec/10_state.md R21, R22 and R24 list no
write of them by RELEASE; for these too the model follows R202 (DESIGN CHOICE; log entry 23). -/
def freeStrip (s : State) : State :=
  { s with
    life := .released
    buf := []
    snap := []
    items := []
    variant := 0
    div := 0
    clkHz := 0
    n := 0
    ticks := ⟨0, 0, 0, 0, 0, 0⟩
    fpos := 0
    flen := 0
    grant := 0
    reqBytes := 0
    lastSf := false }

/-- `release_now()` (spec/43_clear_release.md R202). -/
def releaseNow (s : State) : State := respond .ok false (pendOpcode .release) (freeStrip s)

/-! ### Block reset -/

/-- Block reset (spec/70_reset_and_hazards.md R250, R251): every element of R20 takes its reset value but FAULT,
which is unchanged (spec/10_state.md R38). What is outside the block (the wire history, HOST, the resets to
come, the free values) is unchanged (log entries 4, 5, 10). -/
def blockReset (s : State) : State :=
  { State.reset with
    fault := s.fault
    wire := s.wire
    host := s.host
    seen := s.seen
    resets := s.resets
    draws := s.draws }

end Sys2Proof.Machine
end

