-- ==== Sys2Proof/Machine/ClearRelease.lean ====
section
/-! DEFINITION. CLEAR and RELEASE (spec/43_clear_release.md R200 to R204), their accepting steps. -/

namespace Sys2Proof.Machine

/-- `for i in 0 .. N-1: BUF[i] <- (0, 0, 0)`, whatever BUSY is (R200, R201). -/
def zeroBuffer (s : State) : State := { s with buf := bufZero s.n.toNat }

/-- CLEAR() on an ACTIVE strip (R200): zero, then as REFRESH. -/
def clearCmd (s : State) : State := frameStartIfIdle (startTimer (startPending .clear (zeroBuffer s)))

/-- RELEASE() on an ACTIVE strip (R202): at once when no frame is in flight, else it waits (R203). -/
def releaseCmd (s : State) : State :=
  if s.busy then startPending .release s else releaseNow (startPending .release s)

/-- The meaning of CLEAR. -/
def execClear (s : State) : Host.Outcome State Fault Refusal :=
  accept s fun s => whenActive s clearCmd

/-- The meaning of RELEASE. -/
def execRelease (s : State) : Host.Outcome State Fault Refusal :=
  accept s fun s => whenActive s releaseCmd

end Sys2Proof.Machine
end

