-- ==== Sys2Proof/Machine/Derive.lean ====
section
/-! DEFINITION. What CONFIGURE derives: tick constants and transmit timeout, and its checks
(spec/40_configure.md R101 to R106). All arithmetic is exact on naturals (spec/00_scope.md R8). -/

namespace Sys2Proof.Machine

/-- A bit duration in ticks, halves rounded up (R102). -/
def bitTicks (ns clkHz div : Nat) : Nat :=
  (2 * ns * clkHz + div * 10 ^ 9) / (2 * div * 10 ^ 9)

/-- The reset duration in ticks, rounded up (R103). -/
def resetTicks (ns clkHz div : Nat) : Nat := ceilDiv (ns * clkHz) (div * 10 ^ 9)

/-- NS(v) (R104): the table's row for VARIANT 0, the OPEN targets `ws` for VARIANT 1. -/
def nsOf (ws : NsTargets) (variant : Nat) : NsTargets :=
  if variant = 0 then Config.ns0 else ws

/-- The per-bit worst case W_ns, in nominal nanoseconds (R105). -/
def worstCaseNs (t : NsTargets) : Nat := max (t.t0h + t.t0l) (t.t1h + t.t1l)

/-- The transmit timeout in whole milliseconds (R106). -/
def timeoutMs (t : NsTargets) (count : Nat) : Nat :=
  max Config.timeoutFloorMs (ceilDiv (worstCaseNs t * count * Config.bitsPerPixel) (10 ^ 6))

/-- The derived values before they are checked against their widths (spec/00_scope.md R8). -/
structure Derived where
  t0h : Nat
  t0l : Nat
  t1h : Nat
  t1l : Nat
  trst : Nat
  tmo : Nat
  deriving DecidableEq, Repr

/-- The six derivations of CONFIGURE (R100). -/
def derive (t : NsTargets) (clkHz div count : Nat) : Derived where
  t0h := bitTicks t.t0h clkHz div
  t0l := bitTicks t.t0l clkHz div
  t1h := bitTicks t.t1h clkHz div
  t1l := bitTicks t.t1l clkHz div
  trst := resetTicks Config.resetNs clkHz div
  tmo := timeoutMs t count

/-- Checks 1 to 4 (R101). -/
def configOk (variant div count clkHz : Nat) : Bool :=
  (variant = 0 || variant = 1) && (1 ≤ div && div ≤ Config.divMax) && 1 ≤ clkHz && count ≤ Config.nMax

/-- A duration lies in 1 .. DUR_MAX (check 5 of R101). -/
def durationOk (d : Nat) : Bool := 1 ≤ d && d ≤ Config.durMax

/-- Checks 5 to 7 (R101). -/
def ticksOk (d : Derived) : Bool :=
  (durationOk d.t0h && durationOk d.t0l && durationOk d.t1h && durationOk d.t1l && durationOk d.trst)
    && (d.t0h < d.t1h && d.t1l < d.t0l) && d.tmo < 2 ^ 32

/-- The tick-constant file that holds checked values (R100; log entry 21). -/
def tickFile (d : Derived) : TickFile where
  t0h := BitVec.ofNat 15 d.t0h
  t0l := BitVec.ofNat 15 d.t0l
  t1h := BitVec.ofNat 15 d.t1h
  t1l := BitVec.ofNat 15 d.t1l
  trst := BitVec.ofNat 15 d.trst
  timeoutMs := BitVec.ofNat 32 d.tmo

end Sys2Proof.Machine
end

