-- ==== Sys2Proof/Machine/Configure.lean ====
section
/-! DEFINITION. CONFIGURE (spec/40_configure.md R100 to R110). -/

namespace Sys2Proof.Machine

/-- A failed CONFIGURE: LIFE is FAILED, nothing is stored, DeviceInitFailure (R108). -/
def configureFails (s : State) : State :=
  respond .deviceInitFailure false 0x1 { s with life := .failed }

/-- A successful CONFIGURE stores the configuration and the derived constants, zero-fills BUF and answers OK
(R100, R107). -/
def configureStores (variant : BitVec 4) (div : BitVec 8) (count : BitVec 16) (clkHz : BitVec 32)
    (ticks : TickFile) (s : State) : State :=
  respond .ok false 0x1
    { s with
      variant := variant
      div := div
      clkHz := clkHz
      n := count
      ticks := ticks
      buf := bufZero count.toNat
      busy := false
      life := .active }

/-- CONFIGURE once its values are derived: the checks decide (R100, R101). -/
def configureChecked (variant : BitVec 4) (div : BitVec 8) (count : BitVec 16) (clkHz : BitVec 32)
    (derived : Derived) (s : State) : State :=
  if configOk variant.toNat div.toNat count.toNat clkHz.toNat && ticksOk derived then
    configureStores variant div count clkHz (tickFile derived) s
  else configureFails s

/-- CONFIGURE(variant, div, count, clk_hz) with the targets `ws` of VARIANT 1 (R100). -/
def configureWith (ws : NsTargets) (variant : BitVec 4) (div : BitVec 8) (count : BitVec 16)
    (clkHz : BitVec 32) (s : State) : State :=
  configureChecked variant div count clkHz
    (derive (nsOf ws variant.toNat) clkHz.toNat div.toNat count.toNat) s

/-- The meaning of CONFIGURE. -/
def execConfigure (variant : BitVec 4) (div : BitVec 8) (count : BitVec 16) (clkHz : BitVec 32)
    (s : State) : Host.Outcome State Fault Refusal :=
  accept s fun s => whenUnconfigured s (configureWith Config.wsNs variant div count clkHz)

end Sys2Proof.Machine
end

