-- ==== Sys2Proof/Machine/Refresh.lean ====
section
/-! DEFINITION. REFRESH's accepting step (spec/42_refresh_encoder.md R150). Its later steps are those of the
agents in Sys2Proof/Machine/Agents.lean. -/

namespace Sys2Proof.Machine

/-- REFRESH() on an ACTIVE strip (R150). -/
def refreshCmd (s : State) : State := frameStartIfIdle (startTimer (startPending .refresh s))

/-- The meaning of REFRESH. -/
def execRefresh (s : State) : Host.Outcome State Fault Refusal :=
  accept s fun s => whenActive s refreshCmd

end Sys2Proof.Machine
end

