-- ==== Sys2Proof/Machine/SetPixel.lean ====
section
/-! DEFINITION. SET_PIXEL (spec/41_set_pixel.md R130 to R132). -/

namespace Sys2Proof.Machine

/-- The opcode SET_PIXEL's answers echo (spec/30_encoding.md R72, R80). -/
def setPixelOpcode : BitVec 4 := 0x2

/-- SET_PIXEL(index, r, g, b) on an ACTIVE strip, whatever BUSY is: it writes BUF, never SNAP (R130 to R132). -/
def setPixelCmd (index : BitVec 16) (r g b : Byte) (s : State) : State :=
  if index < s.n then
    respond .ok false setPixelOpcode { s with buf := bufWrite s.buf index.toNat ⟨r, g, b⟩ }
  else respond .invalidArgument false setPixelOpcode s

/-- The meaning of SET_PIXEL. -/
def execSetPixel (index : BitVec 16) (r g b : Byte) (s : State) : Host.Outcome State Fault Refusal :=
  accept s fun s => whenActive s (setPixelCmd index r g b)

end Sys2Proof.Machine
end

