-- ==== Sys2Proof/Machine/Dispatch.lean ====
section
/-! DEFINITION. exec: one arm per command of spec/opcode_table.json, each one call of its meaning. -/

namespace Sys2Proof.Machine

def exec (i : Instr) (s : State) : Host.Outcome State Fault Refusal :=
  match i with
  | .configure variant div count clkHz => Sys2Proof.Machine.execConfigure variant div count clkHz s
  | .setPixel index r g b => Sys2Proof.Machine.execSetPixel index r g b s
  | .refresh => Sys2Proof.Machine.execRefresh s
  | .clear => Sys2Proof.Machine.execClear s
  | .release => Sys2Proof.Machine.execRelease s

end Sys2Proof.Machine
end

