-- ==== Sys2Proof/Machine/Agents.lean ====
section
/-! DEFINITION. The steps of the four agents (spec/00_scope.md R11) and of the reset input, when each is
enabled, what each does, and which one is taken. -/

namespace Sys2Proof.Machine

/-- The steps a state can have. -/
inductive Move where
  /-- HOST's next action. -/
  | host
  /-- ENGINE starts a frame that waited (spec/42_refresh_encoder.md R151). -/
  | start
  /-- ENGINE runs release_now for a RELEASE that waited (spec/43_clear_release.md R203). -/
  | release
  /-- TRANSPORT emits one item (spec/42_refresh_encoder.md R164). -/
  | emit
  /-- TRANSPORT holds a jitter gap (spec/42_refresh_encoder.md R165). -/
  | gap
  /-- TRANSPORT completes the frame (spec/42_refresh_encoder.md R166). -/
  | complete
  /-- TIMER answers TransmissionTimeout (spec/42_refresh_encoder.md R168). -/
  | timeout
  /-- The platform resets the block (spec/70_reset_and_hazards.md R250). -/
  | blockReset
  deriving DecidableEq, Repr

/-! ### When a step is enabled -/

/-- PEND holds a REFRESH or a CLEAR, the commands that send a frame and that TIMER watches. -/
def framePending (s : State) : Bool :=
  match s.pend with
  | some p => p.op != .release
  | none => false

/-- PEND holds a REFRESH or CLEAR whose frame has started. -/
def frameStarted (s : State) : Bool :=
  match s.pend with
  | some p => p.op != .release && p.started
  | none => false

/-- PEND holds a RELEASE. -/
def releasePending (s : State) : Bool :=
  match s.pend with
  | some p => p.op == .release
  | none => false

/-- HOST's next action has a step: a write when the port is ready, a response read when there is a response, a
register read always (spec/30_encoding.md R70, R82, spec/10_state.md R29). -/
def hostEnabled (s : State) : Bool :=
  match s.host.head? with
  | some (.write _) => portReady s
  | some .waitResp => s.resp.isSome
  | some (.read _) => true
  | none => false

/-- The deadline, TIMEOUT_MS in ticks of the nominal tick clock (spec/42_refresh_encoder.md R169; log entry 21). -/
def deadline (s : State) : Nat :=
  ceilDiv (s.ticks.timeoutMs.toNat * s.clkHz.toNat) (1000 * s.div.toNat)

/-- The timeout condition: always true untimed, `elapsed ≥ deadline` timed (spec/42_refresh_encoder.md R168, R169). -/
def timeoutCondition (timed : Bool) (s : State) : Bool := !timed || deadline s ≤ s.elapsed

/-- The enabling condition of each step in a state without a model fault, for the parameters TIMED and ISOLATED. -/
def moveCondition (timed isolated : Bool) (s : State) : Move → Bool
  | .host => hostEnabled s
  | .start => s.life == .active && !s.busy && framePending s && !frameStarted s
  | .release => releasePending s && !s.busy
  | .emit => s.busy && s.fpos < s.flen
  | .gap => s.busy && 0 < s.fpos && s.fpos < s.flen && 0 < s.gapsLeft && !isolated
  | .complete => s.busy && s.fpos == s.flen
  | .timeout => framePending s && s.busy && timeoutCondition timed s
  | .blockReset => 0 < s.resets

/-- A state with a model fault "has no step of any agent" (spec/10_state.md R30); only the reset input, which
is no agent, can still act, and it leaves FAULT as it is (log entry 2). -/
def moveEnabled (timed isolated : Bool) (s : State) (m : Move) : Bool :=
  moveCondition timed isolated s m && (s.fault.isNone || m == .blockReset)

/-- Every step, HOST's first. -/
def allMoves : List Move := [.host, .start, .release, .emit, .gap, .complete, .timeout, .blockReset]

/-- The steps this state has. -/
def enabledMoves (timed isolated : Bool) (s : State) : List Move :=
  allMoves.filter (moveEnabled timed isolated s)

/-- The step taken: the free value `pick` chooses among those the state has, with no priority
(spec/60_exceptions.md R228; log entry 3). -/
def chosenMove (timed isolated : Bool) (s : State) : Option Move :=
  (enabledMoves timed isolated s)[s.draws.pick % (enabledMoves timed isolated s).length]?

/-! ### What a step does -/

/-- ENGINE handles a written word (spec/30_encoding.md R74). -/
def acceptWord (w : CmdWord) (s : State) : Host.Outcome State Fault Refusal :=
  match decode w with
  | some i => exec i s
  | none => accept s (illegalWord (fieldOp w))

/-- HOST reads the response port: it returns RESP and sets it to none (spec/10_state.md R29). -/
def readResponse (s : State) : State :=
  match s.resp with
  | some w => { s with resp := none, seen := s.seen ++ [.resp w] }
  | none => s

/-- HOST reads a register: no effect on the block (spec/10_state.md R33, spec/30_encoding.md R82). -/
def readRegister (sel : BitVec 4) (s : State) : State :=
  { s with seen := s.seen ++ [.bank sel (readBank s sel)] }

/-- One action of HOST. -/
def hostAct (a : HostAct) (s : State) : Host.Outcome State Fault Refusal :=
  match a with
  | .write w => acceptWord w s
  | .waitResp => .next (readResponse s)
  | .read sel => .next (readRegister sel s)

/-- HOST's next action, taken off its queue. -/
def hostStep (s : State) : Host.Outcome State Fault Refusal :=
  match s.host with
  | a :: rest => hostAct a { s with host := rest }
  | [] => .next s

/-- TIMER's count while it runs: it measures a pending REFRESH or CLEAR (spec/42_refresh_encoder.md R169,
spec/60_exceptions.md R231; log entry 9). -/
def tickTimer (d : Nat) (s : State) : State :=
  { s with elapsed := if framePending s then s.elapsed + d else s.elapsed }

/-- The line carries an event and is low after it; the event joins the wire history
(spec/42_refresh_encoder.md R163 to R165; log entry 15). -/
def drive (e : WireEvent) (s : State) : State :=
  { tickTimer (wireTicks e) s with line := .low, wire := s.wire ++ [e] }

/-- The emission of one item (spec/42_refresh_encoder.md R164). -/
def emitItem (channel : Nat) (it : PulseItem) (s : State) : State :=
  { drive (.item channel it.h it.l) s with fpos := s.fpos + 1 }

/-- TRANSPORT emits ITEMS[FPOS] (spec/42_refresh_encoder.md R164; log entry 18). -/
def emitStep (s : State) : Host.Outcome State Fault Refusal :=
  match s.items[s.fpos.toNat]? with
  | some it => .next (emitItem Config.channel it s)
  | none => .fault .noItem

/-- TRANSPORT holds the line low for d ≥ 1 ticks (spec/42_refresh_encoder.md R165; log entry 7). -/
def gapStep (s : State) : State :=
  { drive (.gap Config.channel (s.draws.gapTicks + 1)) s with gapsLeft := s.gapsLeft - 1 }

/-- TRANSPORT completes the frame: BUSY is 0, and the command whose frame it was is answered OK with the frame's
shortfall (spec/42_refresh_encoder.md R166, R167). -/
def completeStep (s : State) : State :=
  match s.pend with
  | some p =>
      if frameStarted s then respond .ok s.lastSf (pendOpcode p.op) { s with busy := false, line := .low }
      else { s with busy := false, line := .low }
  | none => { s with busy := false, line := .low }

/-- TIMER answers TransmissionTimeout; the frame, if it has started, goes on (spec/42_refresh_encoder.md R168, R170, R171). -/
def timeoutStep (s : State) : State :=
  match s.pend with
  | some p => respond .transmissionTimeout (p.started && s.lastSf) (pendOpcode p.op) s
  | none => s

/-- The platform gives one block reset (spec/70_reset_and_hazards.md R250, R251). -/
def resetStep (s : State) : State := { blockReset s with resets := s.resets - 1 }

/-- What a step does. -/
def runMove (m : Move) (s : State) : Host.Outcome State Fault Refusal :=
  match m with
  | .host => hostStep s
  | .start => .next (frameStart s)
  | .release => .next (releaseNow s)
  | .emit => emitStep s
  | .gap => .next (gapStep s)
  | .complete => .next (completeStep s)
  | .timeout => .next (timeoutStep s)
  | .blockReset => .next (resetStep s)

/-! ### Around a step -/

/-- The free values of the step after this one (log entry 8). -/
def nextDraws (d : Draws) : Draws where
  serial := d.serial + 1
  pick := Config.pick (d.serial + 1)
  grant := Config.grant (d.serial + 1)
  gapTicks := Config.gapTicks (d.serial + 1)
  gapBudget := Config.gapBudget (d.serial + 1)

/-- A state with fresh free values. -/
def freshDraws (s : State) : State := { s with draws := nextDraws s.draws }

/-- After a step that goes on, the free values are fresh. -/
def thenFresh (o : Host.Outcome State Fault Refusal) : Host.Outcome State Fault Refusal :=
  match o with
  | .next s => .next (freshDraws s)
  | .fault r => .fault r
  | .refused r => .refused r

/-- A state in which no step is enabled (log entries 1, 11): a model fault stops; a HOST that wants to write is
stuck (spec/70_reset_and_hazards.md R257); otherwise the block waits for HOST, unchanged (spec/70_reset_and_hazards.md
R250, spec/10_state.md R29). -/
def noStep (s : State) : Host.Outcome State Fault Refusal :=
  match s.fault with
  | some r => .fault (.model r)
  | none =>
      match s.host.head? with
      | some (.write _) => .fault .hostStuck
      | some .waitResp => .next s
      | some (.read _) => .next s
      | none => .next s

/-- One step for the parameters TIMED and ISOLATED. -/
def stepWith (timed isolated : Bool) (s : State) : Host.Outcome State Fault Refusal :=
  match chosenMove timed isolated s with
  | some m => thenFresh (runMove m s)
  | none => noStep s

/-- The state in which HOST's next action is to write the word, the port is ready and HOST moves next
(spec/30_encoding.md R70; log entry 4). -/
def withWrite (w : CmdWord) (s : State) : State :=
  { s with
    host := .write w :: s.host
    pend := none
    resp := none
    fault := none
    draws := { s.draws with pick := 0 } }

/-- HOST's action for a line of the assembler notation (spec/30_encoding.md R79). -/
def asmAct (l : AsmLine) : Option HostAct :=
  match l with
  | .read sel => if l.wellFormed then some (.read (BitVec.ofNat 4 sel)) else none
  | .waitResp => some .waitResp
  | l => l.word.map .write

end Sys2Proof.Machine
end

