-- ==== Sys2Proof/Machine/Step.lean ====
section
/-! DEFINITION. The step of this instance: its own TIMED and ISOLATED. -/

namespace Sys2Proof.Machine

/-- One step of one agent, or of the reset input. -/
def step (s : State) : Host.Outcome State Fault Refusal := stepWith Config.timed Config.isolated s

/-- The state whose next step is that HOST writes the word `w` of `nbits` bits (log entry 4). -/
def State.withFetchWord (s : State) (nbits w : Nat) : State :=
  withWrite (BitVec.ofNat 64 (w % 2 ^ nbits)) s

end Sys2Proof.Machine
end

