-- ==== Sys2Proof/Safety.lean ====
section
/-! DEFINITION. The invariant of the machine and the words the statements use: the checks of CONFIGURE as
propositions, what a well-kept state is, and what it means that a group of elements does not change. -/

namespace Sys2Proof.Machine

/-- The four checks of the first group, as spec/40_configure.md R101 lists them. -/
def ConfigChecks (variant div count clkHz : Nat) : Prop :=
  (variant = 0 ∨ variant = 1) ∧ (1 ≤ div ∧ div ≤ 255) ∧ 1 ≤ clkHz ∧ count ≤ 65535

/-- A duration lies in 1 .. DUR_MAX (check 5 of spec/40_configure.md R101). -/
def DurationInRange (d : Nat) : Prop := 1 ≤ d ∧ d ≤ 32767

/-- The three checks of the second group, as spec/40_configure.md R101 lists them. -/
def TicksChecks (t0h t0l t1h t1l trst tmo : Nat) : Prop :=
  (DurationInRange t0h ∧ DurationInRange t0l ∧ DurationInRange t1h ∧ DurationInRange t1l ∧ DurationInRange trst)
    ∧ (t0h < t1h ∧ t1l < t0l) ∧ tmo < 2 ^ 32

/-- All checks of a CONFIGURE command, the second group on the values of spec/40_configure.md R102, R103, R106. -/
def ConfigureChecks (variant div count clkHz : Nat) : Prop :=
  ConfigChecks variant div count clkHz
    ∧ TicksChecks (bitTicks (nsOf Config.wsNs variant).t0h clkHz div) (bitTicks (nsOf Config.wsNs variant).t0l clkHz div)
        (bitTicks (nsOf Config.wsNs variant).t1h clkHz div) (bitTicks (nsOf Config.wsNs variant).t1l clkHz div)
        (resetTicks 50000 clkHz div) (timeoutMs (nsOf Config.wsNs variant) count)

/-- The tick-constant file holds the values CONFIGURE derives (spec/10_state.md R23, spec/40_configure.md R100). -/
structure HoldsDerived (variant div count clkHz : Nat) (t : TickFile) : Prop where
  t0h : t.t0h.toNat = bitTicks (nsOf Config.wsNs variant).t0h clkHz div
  t0l : t.t0l.toNat = bitTicks (nsOf Config.wsNs variant).t0l clkHz div
  t1h : t.t1h.toNat = bitTicks (nsOf Config.wsNs variant).t1h clkHz div
  t1l : t.t1l.toNat = bitTicks (nsOf Config.wsNs variant).t1l clkHz div
  trst : t.trst.toNat = resetTicks 50000 clkHz div
  timeoutMs : t.timeoutMs.toNat = timeoutMs (nsOf Config.wsNs variant) count

/-- An ACTIVE strip: the checks of CONFIGURE passed and the tick constants are the ones it derived
(spec/10_state.md R22 to R24, spec/40_configure.md R100, R101). -/
structure Configured (s : State) : Prop where
  checks : ConfigureChecks s.variant.toNat s.div.toNat s.n.toNat s.clkHz.toNat
  derived : HoldsDerived s.variant.toNat s.div.toNat s.n.toNat s.clkHz.toNat s.ticks

/-- A strip that is not ACTIVE holds no configuration and no frame (spec/10_state.md R38, spec/40_configure.md R108,
spec/43_clear_release.md R202; of a RELEASED one that is log entries 22 and 23). -/
structure Unconfigured (s : State) : Prop where
  config : s.variant = 0 ∧ s.div = 0 ∧ s.clkHz = 0 ∧ s.n = 0
  ticks : s.ticks = ⟨0, 0, 0, 0, 0, 0⟩
  frame : s.snap = [] ∧ s.items = [] ∧ s.fpos = 0 ∧ s.flen = 0 ∧ s.grant = 0 ∧ s.reqBytes = 0 ∧ s.lastSf = false
  idle : s.busy = false ∧ s.pend = none

/-- The framer's registers agree with the snapshot (spec/10_state.md R25, R26, spec/42_refresh_encoder.md R152, R161). -/
structure Framed (s : State) : Prop where
  snapshot : s.snap.length = s.n.toNat ∨ s.snap = []
  items : s.items = (frameItems Config.channelOrder s.ticks s.snap).take s.grant.toNat
  flen : s.flen.toNat = s.items.length
  fpos : s.fpos ≤ s.flen
  busy : s.busy = true → s.snap.length = s.n.toNat ∧ s.reqBytes.toNat = requestBytes s.n.toNat
    ∧ s.lastSf = shortfall s.grant.toNat s.n.toNat

/-- What holds at reset and is kept by every step. -/
structure Inv (s : State) : Prop where
  /-- BUF has exactly N entries (spec/10_state.md R21). -/
  memory : Memory.wf s.n s.buf
  /-- The line is low between steps (spec/10_state.md R31, spec/42_refresh_encoder.md R163). -/
  line : s.line = .low
  framed : Framed s
  configured : s.life = .active → Configured s
  unconfigured : s.life ≠ .active → Unconfigured s
  /-- A started command's frame is in flight (spec/42_refresh_encoder.md R152, R166). -/
  started : frameStarted s = true → s.busy = true
  /-- A command is pending or its response is unread, never both (spec/10_state.md R28). -/
  answered : s.pend.isSome = true → s.resp = none

/-- The registers CONFIGURE writes once do not change (spec/10_state.md R22, R24). -/
def SameConfiguration (s t : State) : Prop :=
  t.variant = s.variant ∧ t.div = s.div ∧ t.clkHz = s.clkHz ∧ t.n = s.n ∧ t.ticks = s.ticks

/-- The snapshot and the framer's registers do not change (spec/10_state.md R25, R26). -/
def SameFrame (s t : State) : Prop :=
  t.snap = s.snap ∧ t.items = s.items ∧ t.fpos = s.fpos ∧ t.flen = s.flen ∧ t.grant = s.grant
    ∧ t.reqBytes = s.reqBytes ∧ t.lastSf = s.lastSf ∧ t.gapsLeft = s.gapsLeft

/-- Nothing happens on the line and outside the block. -/
def SameWorld (s t : State) : Prop :=
  t.line = s.line ∧ t.wire = s.wire ∧ t.host = s.host ∧ t.seen = s.seen ∧ t.resets = s.resets ∧ t.draws = s.draws

/-- Every byte of the pixel byte space reads as before (spec/20_memory.md R51). -/
def SameBytes (s t : State) : Prop := ∀ a : Nat, memRead t.buf a = memRead s.buf a

/-- The number of 1 bits of a byte. -/
def byteOnes (v : Byte) : Nat := ([7, 6, 5, 4, 3, 2, 1, 0].filter fun j => v.getLsbD j).length

/-- The number of 1 bits of a snapshot, n1 of spec/42_refresh_encoder.md R172. -/
def snapOnes (snap : List Pixel) : Nat := (snap.map fun p => byteOnes p.r + byteOnes p.g + byteOnes p.b).sum

end Sys2Proof.Machine
end

