-- ==== Sys2Proof/Certificates/Slice0/Obligations.lean ====
section
/-! DEFINITION. The statements for the provers. Each docstring names the rules of spec/ its statement formalises
or rests on; a premise or a clause that is the model's own choice names its log entry. -/

open Sys2Proof Sys2Proof.Machine

/-! ### Words -/

/-- Words written out from the layout of spec/30_encoding.md R71 to R73 (spec/95_test_vectors.md V-C1, V-S1, V-D5,
V-D6, V-D9) decode to the commands they stand for, or to none. -/
def Obligations.DecodeOfWrittenWords : Prop :=
  decode 0x1001003C02625A00 = some (.configure 0 1 60 40000000)
    ∧ decode 0x2000000500FF0000 = some (.setPixel 5 255 0 0)
    ∧ decode 0x3000000000000000 = some .refresh
    ∧ decode 0x4000000000000000 = some .clear
    ∧ decode 0x5000000000000000 = some .release
    ∧ decode 0x0000000000000000 = none
    ∧ decode 0x2100000000000000 = none
    ∧ decode 0x20000000FF000000 = none
    ∧ decode 0x5080000000000000 = none

/-- Decoding the encoding of any command gives it back, every operand at every value (R71 to R75). -/
def Obligations.DecodeOfEncodeIsIdentity : Prop := ∀ i : Instr, decode (encode i) = some i

/-- A word has at most one meaning and a command at most one word: a decoded word is the encoding of what it
decodes to (R71 to R75). -/
def Obligations.EncodeOfDecodeIsIdentity : Prop :=
  ∀ (w : CmdWord) (i : Instr), decode w = some i → encode i = w

/-- R76: which words are illegal, and what a ready port does with one in every LIFE. -/
def Obligations.IllegalWords : Prop :=
  (∀ w : CmdWord, decode w = none ↔
      (fieldOp w = 0 ∨ 6 ≤ (fieldOp w).toNat)
        ∨ (fieldOp w = 2 ∧ ¬ (fieldVar w = 0 ∧ fieldDv w = 0 ∧ fieldHi w = 0))
        ∨ ((fieldOp w = 3 ∨ fieldOp w = 4 ∨ fieldOp w = 5)
            ∧ ¬ (fieldVar w = 0 ∧ fieldDv w = 0 ∧ fieldIdx w = 0 ∧ fieldClk w = 0)))
    ∧ decode 0 = none
    ∧ (∀ (w : CmdWord) (s : State), decode w = none → portReady s = true →
        (s.life = .unconfigured ∨ s.life = .active →
          acceptWord w s = .next { s with resp := some (responseWord .invalidArgument false (fieldOp w)) })
        ∧ (s.life = .released → acceptWord w s = .next { s with fault := some .useAfterRelease })
        ∧ (s.life = .failed → acceptWord w s = .next { s with fault := some .useAfterInitFailure }))

/-- The assembler table of R79 gives each line with operands that fit the word of its command, the
pseudo-instructions included, and no word where an operand does not fit. -/
def Obligations.AssemblerWords : Prop :=
  (∀ v d c k : Nat, (AsmLine.configure v d c k).wellFormed = true → (AsmLine.configure v d c k).word
      = some (encode (.configure (BitVec.ofNat 4 v) (BitVec.ofNat 8 d) (BitVec.ofNat 16 c) (BitVec.ofNat 32 k))))
    ∧ (∀ i r g b : Nat, (AsmLine.setpix i r g b).wellFormed = true → (AsmLine.setpix i r g b).word
      = some (encode (.setPixel (BitVec.ofNat 16 i) (BitVec.ofNat 8 r) (BitVec.ofNat 8 g) (BitVec.ofNat 8 b))))
    ∧ (∀ i r g b : Nat, (AsmLine.setpix i r g b).wellFormed = true →
        (AsmLine.setrgb i (r * 2 ^ 16 + g * 2 ^ 8 + b)).word = (AsmLine.setpix i r g b).word)
    ∧ AsmLine.refresh.word = some (encode .refresh)
    ∧ AsmLine.clear.word = some (encode .clear)
    ∧ AsmLine.release.word = some (encode .release)
    ∧ (∀ w : Nat, w < 2 ^ 64 → (AsmLine.word64 w).word = some (BitVec.ofNat 64 w))
    ∧ (∀ l : AsmLine, l.wellFormed = false → l.word = none)

/-- The response word of R80 and R81, field by field. -/
def Obligations.ResponseWordFields : Prop :=
  ∀ (code : ResultCode) (sf : Bool) (ope : BitVec 4),
    (responseWord code sf ope).extractLsb' 0 4
        = (match code with
          | .ok => 0 | .invalidArgument => 1 | .deviceInitFailure => 2 | .transmissionTimeout => 3)
      ∧ (responseWord code sf ope).getLsbD 4 = sf
      ∧ (responseWord code sf ope).extractLsb' 5 3 = 0
      ∧ (responseWord code sf ope).extractLsb' 8 4 = ope
      ∧ (responseWord code sf ope).extractLsb' 12 20 = 0

/-! ### The command port and the step -/

/-- A step runs the decoded instruction: where HOST's next action is to write a word that decodes to `i` and HOST
moves, the step is exec of `i` on the state without that action, and then the free values are fresh. HOST moves
where it is the chosen step; it is the only one when the port is ready, no frame is in flight and no block reset is
due (R70, R74; log entries 3, 4, 8). -/
def Obligations.StepRunsDecodedInstruction : Prop :=
  (∀ (s : State) (w : CmdWord) (rest : List HostAct) (i : Instr),
      s.host = .write w :: rest → decode w = some i →
      (chosenMove Config.timed Config.isolated s = some .host
        ∨ (portReady s = true ∧ s.busy = false ∧ s.resets = 0)) →
      step s = thenFresh (exec i { s with host := rest }))
    ∧ (∀ (s : State) (w : Nat) (i : Instr), w < 2 ^ 64 → decode (BitVec.ofNat 64 w) = some i →
      step (s.withFetchWord 64 w) = thenFresh (exec i { s.withFetchWord 64 w with host := s.host }))

/-- R74: the checks of the accepting step, in order, on a ready port; where none applies, the command is executed. -/
def Obligations.AcceptChecksInOrder : Prop :=
  ∀ (w : CmdWord) (s : State), portReady s = true →
    (s.life = .released → acceptWord w s = .next { s with fault := some .useAfterRelease })
      ∧ (s.life = .failed → acceptWord w s = .next { s with fault := some .useAfterInitFailure })
      ∧ (s.life ≠ .released → s.life ≠ .failed → decode w = none →
          acceptWord w s = .next { s with resp := some (responseWord .invalidArgument false (fieldOp w)) })
      ∧ (∀ i, s.life = .unconfigured → decode w = some i → i.opcode ≠ 1 →
          acceptWord w s = .next { s with fault := some .useBeforeConfigure })
      ∧ (∀ i, s.life = .active → decode w = some i → i.opcode = 1 →
          acceptWord w s = .next { s with fault := some .reconfigure })
      ∧ (∀ i, decode w = some i → ((s.life = .unconfigured ∧ i.opcode = 1) ∨ (s.life = .active ∧ i.opcode ≠ 1)) →
          acceptWord w s = exec i s)

/-- A word on a port that takes none has no step (R70): exec stops by name (log entry 14), and HOST's write is not
enabled, so no step of the machine is that write. -/
def Obligations.PortNotReadyTakesNoWord : Prop :=
  ∀ s : State, (s.pend ≠ none ∨ s.resp ≠ none ∨ s.fault ≠ none) →
    (∀ i, exec i s = .fault .portNotReady)
      ∧ (∀ w rest, s.host = .write w :: rest →
          moveEnabled Config.timed Config.isolated s .host = false
            ∧ ∀ t, step s = .next t → t.host = s.host)

/-- R257: a HOST that writes before it has read the previous response is stuck, not dropped; the step says so by
name (log entry 11), the word still in HOST's hand. -/
def Obligations.WriteBeforeReadIsStuck : Prop :=
  ∀ (s : State) (w : CmdWord) (rest : List HostAct), s.host = .write w :: rest → s.resp ≠ none → s.pend = none →
    s.fault = none → s.busy = false → s.resets = 0 → step s = .fault .hostStuck

/-- A state with a model fault has no step of any agent (R30, R224): it stops with its reason. A block reset is no
agent's step; one that is due still resets the block and leaves FAULT (log entries 1, 2). -/
def Obligations.FaultedStateHasNoAgentStep : Prop :=
  ∀ (s : State) (r : FaultReason), s.fault = some r →
    (s.resets = 0 → step s = .fault (.model r))
      ∧ (0 < s.resets → step s = .next (freshDraws { blockReset s with resets := s.resets - 1 }))

/-- FAULT is never cleared by any step (R30), and it is set only by a written word, for the reasons of R224. -/
def Obligations.FaultIsSetOnlyByAWordAndNeverCleared : Prop :=
  ∀ s t : State, step s = .next t →
    (∀ r, s.fault = some r → t.fault = some r)
      ∧ (∀ r, s.fault = none → t.fault = some r → ∃ w rest, s.host = .write w :: rest ∧ t.host = rest
          ∧ t.resp = s.resp
          ∧ (match r with
            | .useBeforeConfigure => s.life = .unconfigured ∧ ∃ i, decode w = some i ∧ i.opcode ≠ 1
            | .reconfigure => s.life = .active ∧ ∃ i, decode w = some i ∧ i.opcode = 1
            | .useAfterRelease => s.life = .released
            | .useAfterInitFailure => s.life = .failed))

/-- R228: where several agents have a step, any of them may take it; every step that goes on is one of them, or
there was none and nothing changed (log entries 3, 11). -/
def Obligations.EveryEnabledStepCanBeTaken : Prop :=
  (∀ (s : State) (m : Move), moveEnabled Config.timed Config.isolated s m = true →
      ∃ p : Nat, p < (enabledMoves Config.timed Config.isolated s).length ∧
        ∀ q : Nat, q % (enabledMoves Config.timed Config.isolated s).length = p →
        step { s with draws := { s.draws with pick := q } }
          = thenFresh (runMove m { s with draws := { s.draws with pick := q } }))
    ∧ (∀ s t : State, step s = .next t →
      (t = s ∧ ∀ m, moveEnabled Config.timed Config.isolated s m = false)
        ∨ ∃ m u, moveEnabled Config.timed Config.isolated s m = true ∧ runMove m s = .next u ∧ t = freshDraws u)

/-! ### CONFIGURE -/

/-- R100, R107: a CONFIGURE whose checks pass stores the configuration and the derived constants, zero-fills BUF,
starts no frame and answers OK. This is CONFIGURE's completion. -/
def Obligations.ConfigureSucceeds : Prop :=
  ∀ (s : State) (v : BitVec 4) (d : BitVec 8) (c : BitVec 16) (k : BitVec 32),
    portReady s = true → s.life = .unconfigured → ConfigureChecks v.toNat d.toNat c.toNat k.toNat →
    ∃ t, exec (.configure v d c k) s = .next t
      ∧ t = { s with
          variant := v, div := d, n := c, clkHz := k, ticks := t.ticks
          buf := List.replicate c.toNat ⟨0, 0, 0⟩, busy := false, life := .active
          resp := some 0x00000100 }
      ∧ HoldsDerived v.toNat d.toNat c.toNat k.toNat t.ticks

/-- The formulas of R102, R103 and R106 as a VARIANT 0 strip holds them: bit durations rounded half up, the reset
rounded up, the timeout at least 100 ms and rounded up. -/
def Obligations.VariantZeroConstants : Prop :=
  ∀ (s t : State) (d : BitVec 8) (c : BitVec 16) (k : BitVec 32), s.life = .unconfigured →
    exec (.configure 0 d c k) s = .next t → t.life = .active →
    t.ticks.t0h.toNat = (2 * 350 * k.toNat + d.toNat * 1000000000) / (2 * d.toNat * 1000000000)
      ∧ t.ticks.t0l.toNat = (2 * 1360 * k.toNat + d.toNat * 1000000000) / (2 * d.toNat * 1000000000)
      ∧ t.ticks.t1h = t.ticks.t0l ∧ t.ticks.t1l = t.ticks.t0h
      ∧ t.ticks.trst.toNat = (50000 * k.toNat + (d.toNat * 1000000000 - 1)) / (d.toNat * 1000000000)
      ∧ t.ticks.timeoutMs.toNat = max 100 ((1710 * c.toNat * 24 + 999999) / 1000000)

/-- R108: a CONFIGURE with a failing check makes the instance FAILED, stores nothing and answers
DeviceInitFailure with SF = 0, and on a FAILED instance every later word faults. -/
def Obligations.ConfigureFailsOnAnyCheck : Prop :=
  ∀ (s : State) (v : BitVec 4) (d : BitVec 8) (c : BitVec 16) (k : BitVec 32),
    portReady s = true → s.life = .unconfigured → ¬ ConfigureChecks v.toNat d.toNat c.toNat k.toNat →
    exec (.configure v d c k) s = .next { s with life := .failed, resp := some 0x00000102 }
      ∧ ∀ (s' : State) (w : CmdWord), portReady s' = true → s'.life = .failed →
          acceptWord w s' = .next { s' with fault := some .useAfterInitFailure }

/-- R261: a derived bit duration is within half a tick of its target, a reset never shorter than RESET_NS and less
than one tick longer (R102, R103). -/
def Obligations.RoundingBounds : Prop :=
  ∀ ns k d : Nat, 1 ≤ d →
    (2 * (bitTicks ns k d * (d * 10 ^ 9)) ≤ 2 * (ns * k) + d * 10 ^ 9
        ∧ 2 * (ns * k) ≤ 2 * (bitTicks ns k d * (d * 10 ^ 9)) + d * 10 ^ 9)
      ∧ (ns * k ≤ resetTicks ns k d * (d * 10 ^ 9)
        ∧ resetTicks ns k d * (d * 10 ^ 9) < ns * k + d * 10 ^ 9)

/-- What CONFIGURE leaves unchanged, in every LIFE and whatever its checks say: the snapshot and the framer's
registers, the timer, everything outside the block (R100: `LAST_SF` is not written), and every byte of the pixel
space unless it stores a configuration, when every byte of the new N pixels is 0 and there is no other (that an address
at or above 3N gives no byte is the model's choice, log entry 13). -/
def Obligations.ConfigureFrame : Prop :=
  ∀ (s t : State) (v : BitVec 4) (d : BitVec 8) (c : BitVec 16) (k : BitVec 32),
    exec (.configure v d c k) s = .next t →
    SameFrame s t ∧ SameWorld s t ∧ t.elapsed = s.elapsed ∧ t.pend = s.pend
      ∧ (t.life = s.life ∨ t.life = .failed → SameConfiguration s t ∧ SameBytes s t ∧ t.busy = s.busy)
      ∧ (s.life = .unconfigured ∧ t.life = .active →
          t.busy = false ∧ t.fault = s.fault ∧ ∀ a, memRead t.buf a = if a < 3 * c.toNat then some 0 else none)

/-! ### SET_PIXEL -/

/-- R130, R132: SET_PIXEL with a legal index stores the colour in that entry of BUF, and in no other, and answers OK,
whether or not a frame is in flight. This is SET_PIXEL's completion. -/
def Obligations.SetPixelStoresOnePixel : Prop :=
  ∀ (s : State) (index : BitVec 16) (r g b : Byte),
    portReady s = true → s.life = .active → Memory.wf s.n s.buf → index.toNat < s.n.toNat →
    ∃ t, exec (.setPixel index r g b) s = .next t
      ∧ t = { s with buf := t.buf, resp := some 0x00000200 }
      ∧ t.buf.length = s.buf.length
      ∧ t.buf[index.toNat]? = some ⟨r, g, b⟩
      ∧ ∀ j, j ≠ index.toNat → t.buf[j]? = s.buf[j]?

/-- R52, R131: SET_PIXEL with `index ≥ N` answers InvalidArgument with SF = 0 and changes nothing else. -/
def Obligations.SetPixelIndexError : Prop :=
  ∀ (s : State) (index : BitVec 16) (r g b : Byte),
    portReady s = true → s.life = .active → s.n.toNat ≤ index.toNat →
    exec (.setPixel index r g b) s = .next { s with resp := some 0x00000201 }

/-- What SET_PIXEL leaves unchanged: everything but RESP, FAULT and BUF, and every byte of the pixel space but the
three of the pixel it stores, which hold r, g and b (R51, R57, R130). -/
def Obligations.SetPixelFrame : Prop :=
  ∀ (s t : State) (index : BitVec 16) (r g b : Byte), Memory.wf s.n s.buf →
    exec (.setPixel index r g b) s = .next t →
    t = { s with buf := t.buf, resp := t.resp, fault := t.fault }
      ∧ (∀ a, a / 3 ≠ index.toNat → memRead t.buf a = memRead s.buf a)
      ∧ (s.life = .active ∧ index.toNat < s.n.toNat →
          memRead t.buf (3 * index.toNat) = some r ∧ memRead t.buf (3 * index.toNat + 1) = some g
            ∧ memRead t.buf (3 * index.toNat + 2) = some b)
      ∧ (¬ (s.life = .active ∧ index.toNat < s.n.toNat) → SameBytes s t)

/-- R50, R51: the pixel byte space has exactly the bytes 0 .. 3N-1, byte 3i + k being component k of pixel i, and a byte
write changes that byte only (spec/00_scope.md R9). That an address at or above 3N gives no byte and a write there changes
nothing is the model's choice (log entry 13). -/
def Obligations.PixelByteSpace : Prop :=
  ∀ buf : List Pixel,
    (∀ i p, buf[i]? = some p →
        memRead buf (3 * i) = some p.r ∧ memRead buf (3 * i + 1) = some p.g ∧ memRead buf (3 * i + 2) = some p.b)
      ∧ (∀ a, memRead buf a = none ↔ 3 * buf.length ≤ a)
      ∧ (∀ a c v, memRead (memWrite buf a v) c
          = if c = a ∧ a < 3 * buf.length then some v else memRead buf c)

/-! ### Frames -/

/-- R150, R152: REFRESH on an idle strip takes the snapshot, the grant and the request and puts the granted prefix
of the frame in flight, all in the accepting step. This is REFRESH's completion; G is the draw of TRANSPORT, any
value (R160; log entry 6). -/
def Obligations.RefreshStartsAFrame : Prop :=
  ∀ s : State, portReady s = true → s.life = .active → s.busy = false →
    ∃ t, exec .refresh s = .next t
      ∧ t = { s with
          pend := some ⟨.refresh, true⟩, elapsed := 0, busy := true, snap := s.buf
          reqBytes := BitVec.ofNat 32 (3 * s.n.toNat + 2), grant := s.draws.grant
          items := t.items, flen := t.flen, fpos := 0
          lastSf := decide (s.draws.grant.toNat < 24 * s.n.toNat + 2), gapsLeft := t.gapsLeft }
      ∧ t.flen.toNat = min s.draws.grant.toNat (24 * s.n.toNat + 2)
      ∧ t.items = (frameItems Config.channelOrder s.ticks s.buf).take t.flen.toNat

/-- R150, R151: REFRESH while a timed-out frame is in flight waits for it, and starts nothing. -/
def Obligations.RefreshWaitsForTheFrameInFlight : Prop :=
  ∀ s : State, portReady s = true → s.life = .active → s.busy = true →
    exec .refresh s = .next { s with pend := some ⟨.refresh, false⟩, elapsed := 0 }

/-- R200, R201: CLEAR zeroes BUF at acceptance; on an idle strip its frame, all zero, starts in the same step; while a
frame is in flight that frame is unchanged and CLEAR waits. This is CLEAR's completion; G is the draw of TRANSPORT, any
value (log entry 6). -/
def Obligations.ClearZeroesThenSends : Prop :=
  ∀ s : State, portReady s = true → s.life = .active →
    ∃ t, exec .clear s = .next t
      ∧ t.buf = List.replicate s.n.toNat ⟨0, 0, 0⟩ ∧ t.elapsed = 0
      ∧ (s.busy = false → t = { s with
          buf := t.buf, pend := some ⟨.clear, true⟩, elapsed := 0, busy := true, snap := t.buf
          reqBytes := BitVec.ofNat 32 (3 * s.n.toNat + 2), grant := s.draws.grant
          items := (frameItems Config.channelOrder s.ticks t.buf).take (min s.draws.grant.toNat (24 * s.n.toNat + 2))
          flen := BitVec.ofNat 32 (min s.draws.grant.toNat (24 * s.n.toNat + 2)), fpos := 0
          lastSf := decide (s.draws.grant.toNat < 24 * s.n.toNat + 2), gapsLeft := t.gapsLeft })
      ∧ (s.busy = true → t = { s with buf := t.buf, pend := some ⟨.clear, false⟩, elapsed := 0 })

/-- What REFRESH and CLEAR leave unchanged in every LIFE: LIFE, the configuration, the tick constants, RESP, the line
and everything outside the block; the snapshot and framer too when they start no frame. REFRESH stores to no byte of the
pixel space; CLEAR on an ACTIVE strip stores 0 to every byte of it, and elsewhere to none (R21, R32, R150, R200; that an
address at or above 3N gives no byte is log entry 13). -/
def Obligations.RefreshAndClearFrame : Prop :=
  ∀ (s t : State) (i : Instr), i = .refresh ∨ i = .clear → Memory.wf s.n s.buf → exec i s = .next t →
    t.life = s.life ∧ SameConfiguration s t ∧ SameWorld s t ∧ t.resp = s.resp
      ∧ (¬ (s.life = .active ∧ s.busy = false) → SameFrame s t ∧ t.busy = s.busy)
      ∧ (s.life = .active → t.fault = s.fault)
      ∧ (s.life ≠ .active → t.pend = s.pend ∧ t.elapsed = s.elapsed)
      ∧ (i = .refresh ∨ s.life ≠ .active → SameBytes s t)
      ∧ (i = .clear ∧ s.life = .active → ∀ a, memRead t.buf a = if a < 3 * s.n.toNat then some 0 else none)

/-- R151: a REFRESH or CLEAR that waited has an ENGINE step exactly when the strip is ACTIVE and no frame is in
flight, and the step is a frame start, for any draw G (log entry 6). -/
def Obligations.WaitingFrameStarts : Prop :=
  ∀ s : State, s.fault = none →
    (moveEnabled Config.timed Config.isolated s .start = true ↔
        s.life = .active ∧ s.busy = false ∧ (s.pend = some ⟨.refresh, false⟩ ∨ s.pend = some ⟨.clear, false⟩))
      ∧ (moveEnabled Config.timed Config.isolated s .start = true → ∃ t, runMove .start s = .next t
        ∧ t = { s with
          pend := s.pend.map (fun p => ⟨p.op, true⟩), busy := true, snap := s.buf
          reqBytes := BitVec.ofNat 32 (3 * s.n.toNat + 2), grant := s.draws.grant
          items := (frameItems Config.channelOrder s.ticks s.buf).take (min s.draws.grant.toNat (24 * s.n.toNat + 2))
          flen := BitVec.ofNat 32 (min s.draws.grant.toNat (24 * s.n.toNat + 2)), fpos := 0
          lastSf := decide (s.draws.grant.toNat < 24 * s.n.toNat + 2), gapsLeft := t.gapsLeft })

/-- R153, R154, R155, R156, R157: the frame of a snapshot has 24 items a pixel and two reset items, and every item
is the one R158 names, for every component order. -/
def Obligations.FrameItemPositions : Prop :=
  ∀ (order : ChannelOrder) (t : TickFile) (snap : List Pixel),
    (frameItems order t snap).length = 24 * snap.length + 2
      ∧ (frameItems order t snap)[0]? = some ⟨0, t.trst⟩
      ∧ (frameItems order t snap)[24 * snap.length + 1]? = some ⟨0, t.trst⟩
      ∧ ∀ (i k j : Nat) (p : Pixel) (c : Component), snap[i]? = some p → (wireComponents order)[k]? = some c → j < 8 →
          (frameItems order t snap)[1 + 24 * i + 8 * k + (7 - j)]?
            = some (if (p.component c).getLsbD j then ⟨t.t1h, t.t1l⟩ else ⟨t.t0h, t.t0l⟩)

/-- R53, R54, R159: TRANSPORT's byte stream has 3N + 2 positions, phantom at both ends and payload byte j the
component `CHANNEL_ORDER[j mod 3]` of pixel `j div 3` between, and its translation is the frame. -/
def Obligations.ByteStreamTranslatesToTheFrame : Prop :=
  ∀ (order : ChannelOrder) (t : TickFile) (snap : List Pixel),
    (byteStream order snap).length = 3 * snap.length + 2
      ∧ (byteStream order snap)[0]? = some .phantom
      ∧ (byteStream order snap)[3 * snap.length + 1]? = some .phantom
      ∧ (∀ (j : Nat) (p : Pixel) (c : Component), snap[j / 3]? = some p → (wireComponents order)[j % 3]? = some c →
          (byteStream order snap)[j + 1]? = some (.payload (p.component c)))
      ∧ (byteStream order snap).flatMap (translateByte t) = frameItems order t snap

/-- R161, R162: after a frame start the items are a prefix of the frame, the frame falls short exactly when that
prefix is not all of it, the trailing reset is emitted exactly when it does not fall short, and the reference grant of
R160 is never short. -/
def Obligations.GrantDecidesTheEmittedPrefix : Prop :=
  ∀ (order : ChannelOrder) (s : State), Memory.wf s.n s.buf →
    (frameStartIn order s).items <+: frameItems order s.ticks s.buf
      ∧ (frameStartIn order s).items.length = min s.draws.grant.toNat (24 * s.n.toNat + 2)
      ∧ (frameStartIn order s).flen.toNat = (frameStartIn order s).items.length
      ∧ ((frameStartIn order s).lastSf = true ↔ (frameStartIn order s).items ≠ frameItems order s.ticks s.buf)
      ∧ ((frameStartIn order s).lastSf = true ↔ s.draws.grant.toNat < 24 * s.n.toNat + 2)
      ∧ (s.draws.grant.toNat = referenceGrant s.n.toNat → (frameStartIn order s).lastSf = false)

/-- R173: the frame of an empty strip is two reset items, REQ_BYTES is 2 and the reference grant 16. -/
def Obligations.EmptyStripSendsTwoResets : Prop :=
  referenceGrant 0 = 16
    ∧ ∀ s : State, portReady s = true → s.life = .active → s.busy = false → s.n = 0 → s.buf = [] →
        s.draws.grant.toNat = 16 →
        ∃ t, exec .refresh s = .next t ∧ t.items = [⟨0, s.ticks.trst⟩, ⟨0, s.ticks.trst⟩] ∧ t.reqBytes = 2
          ∧ itemsTicks t.items = 2 * s.ticks.trst.toNat ∧ t.lastSf = false

/-- R172: the duration of a whole frame is two resets and the bits' own durations; on a configured VARIANT 0 strip
every bit lasts as long as every other. -/
def Obligations.FrameDuration : Prop :=
  (∀ (order : ChannelOrder) (t : TickFile) (snap : List Pixel), ∃ n0 : Nat,
      snapOnes snap + n0 = 24 * snap.length
        ∧ itemsTicks (frameItems order t snap) = 2 * t.trst.toNat
          + snapOnes snap * (t.t1h.toNat + t.t1l.toNat) + n0 * (t.t0h.toNat + t.t0l.toNat))
    ∧ (∀ (order : ChannelOrder) (s : State) (snap : List Pixel), Configured s → s.variant = 0 →
      itemsTicks (frameItems order s.ticks snap)
        = 2 * s.ticks.trst.toNat + 24 * snap.length * (s.ticks.t0h.toNat + s.ticks.t0l.toNat))

/-! ### The line, TRANSPORT and TIMER -/

/-- R163: an item drives the line high for h ticks and then low for l ticks, a gap drives it low; no level is held for
0 ticks, and an item's waveform is as long as the item. -/
def Obligations.WaveformOfAnEvent : Prop :=
  (∀ (ch : Nat) (h l : Duration),
      ((waveform (.item ch h l)).map Prod.snd).sum = h.toNat + l.toNat
        ∧ (h ≠ 0 → l ≠ 0 → waveform (.item ch h l) = [(.high, h.toNat), (.low, l.toNat)])
        ∧ (h = 0 → ∀ x ∈ waveform (.item ch h l), x.1 = .low))
    ∧ (∀ ch d : Nat, 1 ≤ d → waveform (.gap ch d) = [(.low, d)])
    ∧ (∀ (e : WireEvent) (x : Level × Nat), x ∈ waveform e → 1 ≤ x.2)

/-- R164: TRANSPORT has an emission step exactly while BUSY = 1 and FPOS < FLEN; it puts ITEMS[FPOS] on the wire,
advances FPOS by exactly 1 and writes nothing else but the timer's count. -/
def Obligations.EmissionStep : Prop :=
  ∀ s : State, Inv s → s.fault = none →
    (moveEnabled Config.timed Config.isolated s .emit = true ↔ s.busy = true ∧ s.fpos.toNat < s.flen.toNat)
      ∧ (moveEnabled Config.timed Config.isolated s .emit = true →
        ∃ it t, s.items[s.fpos.toNat]? = some it ∧ runMove .emit s = .next t
          ∧ t.fpos.toNat = s.fpos.toNat + 1
          ∧ t = { s with fpos := t.fpos, elapsed := t.elapsed, wire := s.wire ++ [.item Config.channel it.h it.l] })

/-- R161, R164, R165: nothing reaches the wire but the items of the frame in flight, in order and unaltered, and, only
where ISOLATED is false, gaps of at least one tick between two items. -/
def Obligations.OnlyFrameItemsAndGapsReachTheWire : Prop :=
  ∀ s t : State, step s = .next t →
    t.wire = s.wire
      ∨ (s.busy = true ∧ s.fpos < s.flen ∧ t.fpos = s.fpos + 1
          ∧ ∃ it, s.items[s.fpos.toNat]? = some it ∧ t.wire = s.wire ++ [.item Config.channel it.h it.l])
      ∨ (Config.isolated = false ∧ s.busy = true ∧ 0 < s.fpos ∧ s.fpos < s.flen ∧ t.fpos = s.fpos
          ∧ ∃ d, 1 ≤ d ∧ t.wire = s.wire ++ [.gap Config.channel d])

/-- R166: TRANSPORT completes a frame exactly when all its items are out; BUSY falls, the framer's registers keep their
values, and a response is given exactly to the REFRESH or CLEAR whose frame it was (R167). -/
def Obligations.CompletionStep : Prop :=
  ∀ s : State, s.fault = none →
    (moveEnabled Config.timed Config.isolated s .complete = true ↔ s.busy = true ∧ s.fpos = s.flen)
      ∧ (s.pend = some ⟨.refresh, true⟩ → runMove .complete s
          = .next { s with busy := false, line := .low, pend := none, resp := some (responseWord .ok s.lastSf 3) })
      ∧ (s.pend = some ⟨.clear, true⟩ → runMove .complete s
          = .next { s with busy := false, line := .low, pend := none, resp := some (responseWord .ok s.lastSf 4) })
      ∧ (s.pend = none ∨ (∃ op, s.pend = some ⟨op, false⟩) ∨ (∃ st, s.pend = some ⟨.release, st⟩) →
          runMove .complete s = .next { s with busy := false, line := .low })

/-- R63, R167: when the OK response of a REFRESH or CLEAR appears, every item of its frame has been emitted, the line
is low, and SF is the shortfall of its frame. -/
def Obligations.OkResponseMeansTheFrameIsOut : Prop :=
  ∀ (s t : State) (sf : Bool) (ope : BitVec 4), Inv s → step s = .next t → s.resp = none →
    t.resp = some (responseWord .ok sf ope) → ope = 3 ∨ ope = 4 →
    t.fpos = t.flen ∧ t.busy = false ∧ t.line = .low ∧ t.pend = none ∧ sf = t.lastSf
      ∧ sf = shortfall t.grant.toNat t.n.toNat
      ∧ s.pend = some ⟨if ope = 3 then .refresh else .clear, true⟩

/-- R168, R169, R171: TIMER has a step exactly while a REFRESH or CLEAR is pending behind a frame in flight and, timed,
the deadline has come; it answers TransmissionTimeout with the frame's shortfall if the frame had started and 0 if not,
and writes nothing but PEND and RESP (R223), so a frame that started goes on and one that had not is never started. -/
def Obligations.TimeoutStep : Prop :=
  ∀ s : State, s.fault = none →
    (∀ timed isolated, moveEnabled timed isolated s .timeout = true ↔
        (∃ p, s.pend = some p ∧ (p.op = .refresh ∨ p.op = .clear)) ∧ s.busy = true
          ∧ (timed = true → (s.ticks.timeoutMs.toNat * s.clkHz.toNat + 1000 * s.div.toNat - 1) / (1000 * s.div.toNat)
              ≤ s.elapsed))
      ∧ (∀ st, s.pend = some ⟨.refresh, st⟩ → runMove .timeout s
          = .next { s with pend := none, resp := some (responseWord .transmissionTimeout (st && s.lastSf) 3) })
      ∧ (∀ st, s.pend = some ⟨.clear, st⟩ → runMove .timeout s
          = .next { s with pend := none, resp := some (responseWord .transmissionTimeout (st && s.lastSf) 4) })

/-- R169, R231: while a REFRESH or CLEAR stays pending, the timer counts exactly the ticks of the events that join the
wire; with no such command it does not count (log entry 9). -/
def Obligations.TimerCountsTheWire : Prop :=
  ∀ s t : State, Inv s → step s = .next t →
    (framePending s = true → framePending t = true →
        ∃ new, t.wire = s.wire ++ new ∧ t.elapsed = s.elapsed + (new.map wireTicks).sum)
      ∧ (framePending s = false → t.elapsed = s.elapsed ∨ t.elapsed = 0)
      ∧ (framePending s = false → framePending t = true → t.elapsed = 0)

/-- R164, R170: with HOST silent and no reset due, a frame in flight always goes out whole, in order, whoever moves
when: within a bounded number of steps BUSY falls, every item not yet emitted has followed on the wire with nothing but
gaps between, and a started command has been answered OK or TransmissionTimeout with its frame's shortfall. The bound by
`gapsLeft`, the empty queue of a silent HOST and the counter of resets are the model's (log entries 7, 4, 5). -/
def Obligations.FrameInFlightAlwaysCompletes : Prop :=
  ∀ s : State, Inv s → s.fault = none → s.busy = true → s.host = [] → s.resets = 0 →
    (s.pend = none ∨ frameStarted s = true) →
    ∃ (k : Nat) (t : State), k ≤ (s.flen.toNat - s.fpos.toNat) + s.gapsLeft + 2 ∧ core.run k s = .next t
      ∧ t.busy = false ∧ t.pend = none ∧ t.fpos = s.flen ∧ t.snap = s.snap ∧ t.items = s.items ∧ t.buf = s.buf
      ∧ (∃ new, t.wire = s.wire ++ new ∧ wireItems new = s.items.drop s.fpos.toNat)
      ∧ (∀ p, s.pend = some p → t.resp = some (responseWord .ok s.lastSf (pendOpcode p.op))
          ∨ t.resp = some (responseWord .transmissionTimeout s.lastSf (pendOpcode p.op)))
      ∧ (s.pend = none → t.resp = s.resp)

/-- R25, R62: while a frame is in flight no step depends on BUF: the step from a state with another BUF is the same step
with another BUF, so no pixel write reaches the frame. -/
def Obligations.FrameInFlightIgnoresTheBuffer : Prop :=
  ∀ (s t : State) (b : List Pixel), s.busy = true → step s = .next t →
    ∃ b', step { s with buf := b } = .next { t with buf := b' }

/-! ### RELEASE -/

/-- R202, R203: RELEASE on an idle strip frees everything and answers OK in the accepting step; while a frame is in
flight it is pending and nothing else changes. This is RELEASE's completion. That it clears LAST_SF follows R202,
R32's "side effect" read as not denying it (log entry 22); BUF and the registers follow R202 too (log entry 23). -/
def Obligations.ReleaseFreesOrWaits : Prop :=
  ∀ s : State, portReady s = true → s.life = .active →
    (s.busy = false → exec .release s = .next { s with
        life := .released, buf := [], snap := [], items := [], variant := 0, div := 0, clkHz := 0, n := 0
        ticks := ⟨0, 0, 0, 0, 0, 0⟩, fpos := 0, flen := 0, grant := 0, reqBytes := 0, lastSf := false
        resp := some 0x00000500 })
      ∧ (s.busy = true → exec .release s = .next { s with pend := some ⟨.release, false⟩ })

/-- R203: a RELEASE that waited has an ENGINE step exactly when no frame is in flight, has no timeout, and then frees
everything as R202 says (LAST_SF too: log entry 22; BUF and the registers: log entry 23). -/
def Obligations.WaitingReleaseRunsWhenIdle : Prop :=
  ∀ (s : State) (st : Bool), s.fault = none → s.pend = some ⟨.release, st⟩ →
    (moveEnabled Config.timed Config.isolated s .release = true ↔ s.busy = false)
      ∧ moveEnabled Config.timed Config.isolated s .timeout = false
      ∧ runMove .release s = .next { s with
        life := .released, buf := [], snap := [], items := [], variant := 0, div := 0, clkHz := 0, n := 0
        ticks := ⟨0, 0, 0, 0, 0, 0⟩, fpos := 0, flen := 0, grant := 0, reqBytes := 0, lastSf := false
        pend := none, resp := some 0x00000500 }

/-- What RELEASE leaves unchanged in every LIFE: BUSY, the timer and everything outside the block; where it only waits or
faults, also the configuration, the frame and every byte of the pixel space; where it frees the strip, no byte is left
(R202, R203). Where it frees the strip, LAST_SF is 0 (R202; log entry 22). That freeing empties BUF and that an
address with no pixel gives no byte are log entries 23 and 13. -/
def Obligations.ReleaseFrame : Prop :=
  ∀ s t : State, exec .release s = .next t →
    SameWorld s t ∧ t.busy = s.busy ∧ t.elapsed = s.elapsed ∧ t.gapsLeft = s.gapsLeft
      ∧ (¬ (s.life = .active ∧ s.busy = false) →
          t.life = s.life ∧ SameConfiguration s t ∧ SameFrame s t ∧ SameBytes s t ∧ t.resp = s.resp)
      ∧ (s.life = .active ∧ s.busy = false → t.fault = s.fault ∧ t.pend = none ∧ t.lastSf = false
          ∧ ∀ a, memRead t.buf a = none)
      ∧ (s.life = .active ∧ s.busy = true → t.fault = s.fault)
      ∧ (s.life ≠ .active → t.pend = s.pend)

/-- R204: after RELEASE every word faults, no step but a block reset (the model's counter of those due: log entry 5) ends
RELEASED, the line stays low with nothing on it, and the read bank reads STATE = 3 and 0 in every other register. -/
def Obligations.ReleasedIsFinal : Prop :=
  ∀ s : State, Inv s → s.life = .released →
    (∀ w, portReady s = true → acceptWord w s = .next { s with fault := some .useAfterRelease })
      ∧ (readBank s 0).extractLsb' 0 3 = 3
      ∧ (∀ sel, sel ≠ 0 → readBank s sel = 0)
      ∧ (∀ t, step s = .next t → t.line = .low ∧ t.wire = s.wire
          ∧ (t.life = .released ∨ (t.life = .unconfigured ∧ t.resets + 1 = s.resets)))

/-! ### Reads and the read bank -/

/-- R29: a HOST read of the response port has a step exactly when there is a response; it returns the response and
empties RESP, and changes nothing else in the block. -/
def Obligations.ResponseReadConsumes : Prop :=
  ∀ (s : State) (rest : List HostAct), s.host = .waitResp :: rest → s.fault = none →
    (moveEnabled Config.timed Config.isolated s .host = true ↔ s.resp ≠ none)
      ∧ (∀ w, s.resp = some w → runMove .host s
          = .next { s with host := rest, resp := none, seen := s.seen ++ [.resp w] })

/-- R33, R82: HOST may read any register at any time, whatever is pending or in flight; the read returns that register's
value in that state and changes nothing in the block (a model fault ends every agent's steps, R30). -/
def Obligations.RegisterReadHasNoSideEffect : Prop :=
  ∀ (s : State) (sel : BitVec 4) (rest : List HostAct), s.host = .read sel :: rest → s.fault = none →
    moveEnabled Config.timed Config.isolated s .host = true
      ∧ runMove .host s = .next { s with host := rest, seen := s.seen ++ [.bank sel (readBank s sel)] }

/-- R35: STATUS, field by field, in every state (R34), and BUSY = 1 only while LIFE = ACTIVE. -/
def Obligations.StatusRegisterFields : Prop :=
  ∀ s : State,
    (readBank s 0).extractLsb' 0 3
        = (match s.life with
          | .unconfigured => 0 | .active => if s.busy then 2 else 1 | .released => 3 | .failed => 4)
      ∧ (readBank s 0).getLsbD 3 = (decide (s.life = .active) && s.lastSf)
      ∧ ((readBank s 0).getLsbD 4 = true ↔ s.pend ≠ none)
      ∧ ((readBank s 0).getLsbD 5 = true ↔ s.resp ≠ none)
      ∧ (readBank s 0).extractLsb' 6 26 = 0
      ∧ (Inv s → s.busy = true → s.life = .active)

/-- R34: every other register shows its element while LIFE = ACTIVE, its unlisted bits 0, and 0 in every other LIFE. -/
def Obligations.ReadBankMap : Prop :=
  ∀ s : State,
    (s.life = .active →
        (readBank s 0x1).toNat = s.ticks.t0h.toNat ∧ (readBank s 0x2).toNat = s.ticks.t0l.toNat
          ∧ (readBank s 0x3).toNat = s.ticks.t1h.toNat ∧ (readBank s 0x4).toNat = s.ticks.t1l.toNat
          ∧ (readBank s 0x5).toNat = s.ticks.trst.toNat ∧ readBank s 0x6 = s.ticks.timeoutMs
          ∧ (readBank s 0x7).toNat = s.n.toNat ∧ (readBank s 0x8).toNat = s.div.toNat
          ∧ readBank s 0x9 = s.clkHz ∧ (readBank s 0xA).toNat = s.variant.toNat
          ∧ readBank s 0xB = s.fpos ∧ readBank s 0xC = s.flen ∧ readBank s 0xD = s.grant
          ∧ readBank s 0xE = s.reqBytes)
      ∧ readBank s 0xF = 0
      ∧ (s.life ≠ .active → ∀ sel, sel ≠ 0 → readBank s sel = 0)

/-! ### Reset, invariants and rules of the whole machine -/

/-- R38, R250, R251: a block reset, also in the middle of a frame, takes every element to its reset value but FAULT,
drops a pending command without a response and emits nothing. The model's own: the counter of resets due that enables it
(log entry 5), that it acts in a faulted state too (log entry 2), and that the wire history survives it (log entry 10). -/
def Obligations.BlockResetTakesEveryElement : Prop :=
  ∀ s : State, 0 < s.resets →
    moveEnabled Config.timed Config.isolated s .blockReset = true
      ∧ ∃ t, runMove .blockReset s = .next t
        ∧ t.life = .unconfigured ∧ t.busy = false ∧ t.variant = 0 ∧ t.div = 0 ∧ t.clkHz = 0 ∧ t.n = 0
        ∧ t.ticks = ⟨0, 0, 0, 0, 0, 0⟩ ∧ t.buf = [] ∧ t.snap = [] ∧ t.items = [] ∧ t.fpos = 0 ∧ t.flen = 0
        ∧ t.grant = 0 ∧ t.reqBytes = 0 ∧ t.lastSf = false ∧ t.pend = none ∧ t.resp = none ∧ t.line = .low
        ∧ t.fault = s.fault ∧ t.wire = s.wire

/-- The invariant holds at reset (R38). -/
def Obligations.InvariantHoldsAtReset : Prop := Inv State.reset

/-- Every step from a state that meets the invariant leads to one that does: BUF has N entries (R21), the line is low
between steps (R31), the framer's registers agree with the snapshot (R25, R26, R161), an ACTIVE strip holds the constants
its own configuration derives (R24, R101), any other holds none (a RELEASED one: log entries 22, 23), a started command's frame
is in flight, and no command is pending while a response is unread (R28). -/
def Obligations.StepKeepsTheInvariant : Prop := ∀ s t : State, Inv s → step s = .next t → Inv t

/-- R26: the frame in flight is never longer than 24 * N_MAX + 2 = 1572842 items and FPOS never passes its end, so
FPOS + 1 never wraps while an item is left. -/
def Obligations.FramePositionNeverWraps : Prop :=
  ∀ s : State, Inv s → s.fpos.toNat ≤ s.flen.toNat ∧ s.flen.toNat ≤ 1572842 ∧ s.flen.toNat = s.items.length
    ∧ (s.fpos < s.flen → (s.fpos + 1).toNat = s.fpos.toNat + 1)

/-- R22, R24: on an ACTIVE strip no step changes the configuration or a tick constant, but the release that ends the
strip and the block reset that ends the instance. -/
def Obligations.TickConstantsNeverChange : Prop :=
  ∀ s t : State, step s = .next t → s.life = .active →
    (t.life = .active ∧ SameConfiguration s t)
      ∨ t.life = .released
      ∨ (t.life = .unconfigured ∧ t.resets + 1 = s.resets)

/-- LIFE moves only as R74, R100, R108, R202 and R250 say: CONFIGURE leads from UNCONFIGURED to ACTIVE or FAILED, RELEASE
from ACTIVE to RELEASED, and only a block reset back to UNCONFIGURED. -/
def Obligations.LifeTransitions : Prop :=
  ∀ s t : State, Inv s → step s = .next t →
    t.life = s.life
      ∨ (s.life = .unconfigured ∧ (t.life = .active ∨ t.life = .failed)
          ∧ ∃ v d c k rest, s.host = .write (encode (.configure v d c k)) :: rest)
      ∨ (s.life = .active ∧ t.life = .released ∧ s.busy = false
          ∧ ((∃ rest, s.host = .write (encode .release) :: rest) ∨ ∃ st, s.pend = some ⟨.release, st⟩))
      ∨ (t.life = .unconfigured ∧ t.resets + 1 = s.resets)

/-- R21: BUF is written only by SET_PIXEL, by CLEAR, by the zero fill of CONFIGURE, by the release that frees it (R202)
and by a block reset (R38). That the release writes BUF follows R202 where R21 does not list it (log entry 23). -/
def Obligations.WhoWritesTheBuffer : Prop :=
  ∀ s t : State, Inv s → step s = .next t → t.buf ≠ s.buf →
    (∃ w rest, s.host = .write w :: rest
        ∧ ((∃ i r g b, decode w = some (.setPixel i r g b)) ∨ decode w = some .clear
          ∨ (∃ v d c k, decode w = some (.configure v d c k)) ∨ decode w = some .release))
      ∨ (t.life = .released ∧ ∃ st, s.pend = some ⟨.release, st⟩)
      ∨ (t.life = .unconfigured ∧ t.resets + 1 = s.resets)

/-- R29, R78: a response that has appeared stays until HOST reads it or the block is reset; no step overwrites it. -/
def Obligations.ResponseIsNeverLost : Prop :=
  ∀ (s t : State) (w : Reg32), Inv s → step s = .next t → s.resp = some w →
    t.resp = some w
      ∨ (t.resp = none ∧ t.seen = s.seen ++ [.resp w] ∧ s.host = .waitResp :: t.host)
      ∨ (t.resp = none ∧ t.life = .unconfigured ∧ t.resets + 1 = s.resets)

/-- R223: TransmissionTimeout appears only for a pending REFRESH or CLEAR, with its opcode and its frame's shortfall if
the frame had started, and the step that places it changes nothing but PEND and RESP (and the model's own draws, which are
fresh after every step, log entry 8): the frame goes on (R170). -/
def Obligations.TimeoutAppearsOnlyFromTheTimer : Prop :=
  ∀ (s t : State) (sf : Bool) (ope : BitVec 4), Inv s → step s = .next t → s.resp = none →
    t.resp = some (responseWord .transmissionTimeout sf ope) →
    t = freshDraws { s with pend := none, resp := t.resp } ∧ s.busy = true
      ∧ ∃ p, s.pend = some p ∧ ((p.op = .refresh ∧ ope = 3) ∨ (p.op = .clear ∧ ope = 4)) ∧ sf = (p.started && s.lastSf)
end

