-- ==== Sys2Proof/Laws/Decode.lean ====
section
/-! SUPPORT. What a decoded word is: the one inversion lemma of `decode`. -/

namespace Sys2Proof

/-- A decoded word selects its command's row, and its operands are its fields. -/
theorem decode_cases {w : CmdWord} {i : Instr} (h : decode w = some i) :
    (selectsConfigure w = true ∧ i = .configure (fieldVar w) (fieldDv w) (fieldIdx w) (fieldClk w))
      ∨ (selectsSetPixel w = true ∧ i = .setPixel (fieldIdx w) (fieldR w) (fieldG w) (fieldB w))
      ∨ (selectsRefresh w = true ∧ i = .refresh)
      ∨ (selectsClear w = true ∧ i = .clear)
      ∨ (selectsRelease w = true ∧ i = .release) := by
  unfold decode at h
  split at h
  · next hs => exact .inl ⟨hs, by simpa using h.symm⟩
  split at h
  · next hs => exact .inr (.inl ⟨hs, by simpa using h.symm⟩)
  split at h
  · next hs => exact .inr (.inr (.inl ⟨hs, by simpa using h.symm⟩))
  split at h
  · next hs => exact .inr (.inr (.inr (.inl ⟨hs, by simpa using h.symm⟩)))
  split at h
  · next hs => exact .inr (.inr (.inr (.inr ⟨hs, by simpa using h.symm⟩)))
  · cases h

end Sys2Proof
end

