-- ==== Sys2Proof/Laws/Derive.lean ====
section
/-! SUPPORT. The checks of CONFIGURE as propositions, and that checked values fit the fields they are stored in. -/

namespace Sys2Proof.Machine

theorem configOk_iff (variant div count clkHz : Nat) :
    configOk variant div count clkHz = true ↔ ConfigChecks variant div count clkHz := by
  simp only [configOk, ConfigChecks, Bool.and_eq_true, Bool.or_eq_true, decide_eq_true_eq, and_assoc]
  rfl

theorem durationOk_iff (d : Nat) : durationOk d = true ↔ DurationInRange d := by
  simp only [durationOk, DurationInRange, Bool.and_eq_true, decide_eq_true_eq]
  rfl

theorem ticksOk_iff (d : Derived) :
    ticksOk d = true ↔ TicksChecks d.t0h d.t0l d.t1h d.t1l d.trst d.tmo := by
  simp [ticksOk, TicksChecks, durationOk_iff, and_assoc]

/-- CONFIGURE's decision is the checks R101 lists (spec/40_configure.md). -/
theorem checks_iff (variant div count clkHz : Nat) :
    (configOk variant div count clkHz
        && ticksOk (derive (nsOf Config.wsNs variant) clkHz div count)) = true
      ↔ ConfigureChecks variant div count clkHz := by
  rw [Bool.and_eq_true, configOk_iff, ticksOk_iff]
  rfl

/-- Checked values are stored without loss. -/
theorem tickFile_holds {variant div count clkHz : Nat} (h : ConfigureChecks variant div count clkHz) :
    HoldsDerived variant div count clkHz (tickFile (derive (nsOf Config.wsNs variant) clkHz div count)) := by
  obtain ⟨-, ⟨⟨h1, h2, h3, h4, h5⟩, -, h6⟩⟩ := h
  simp only [DurationInRange] at h1 h2 h3 h4 h5
  constructor <;> simp only [tickFile, derive, BitVec.toNat_ofNat, Config.resetNs] <;>
    apply Nat.mod_eq_of_lt <;> omega

end Sys2Proof.Machine
end

