-- ==== Sys2Proof/Laws/Encoder.lean ====
section
/-! SUPPORT. Lengths in the encoder, and the shape of a pixel's items. -/

namespace Sys2Proof.Machine

@[simp] theorem byteItems_length (t : TickFile) (v : Byte) : (byteItems t v).length = 8 := by
  simp [byteItems]

@[simp] theorem wireComponents_length (order : ChannelOrder) : (wireComponents order).length = 3 := by
  cases order <;> rfl

@[simp] theorem pixelItems_length (order : ChannelOrder) (t : TickFile) (p : Pixel) :
    (pixelItems order t p).length = 24 := by
  cases order <;> simp [pixelItems, wireComponents]

theorem flatMap_pixelItems_length (order : ChannelOrder) (t : TickFile) (snap : List Pixel) :
    (snap.flatMap (pixelItems order t)).length = 24 * snap.length := by
  induction snap with
  | nil => rfl
  | cons p ps ih => simp only [List.flatMap_cons, List.length_append, pixelItems_length, ih, List.length_cons]; omega

@[simp] theorem byteItems_getElem? (t : TickFile) (v : Byte) {j : Nat} (h : j < 8) :
    (byteItems t v)[7 - j]? = some (bitItem t (v.getLsbD j)) := by
  have : j = 0 ∨ j = 1 ∨ j = 2 ∨ j = 3 ∨ j = 4 ∨ j = 5 ∨ j = 6 ∨ j = 7 := by omega
  rcases this with h | h | h | h | h | h | h | h <;> subst h <;> rfl

theorem shortfall_iff (g k : Nat) : shortfall g k = true ↔ g < 24 * k + 2 := decide_eq_true_iff

theorem emittedLength_eq (g k : Nat) : emittedLength g k = min g (24 * k + 2) := rfl

theorem emittedLength_lt {g : Nat} (h : g < 2 ^ 32) (k : Nat) : emittedLength g k < 2 ^ 32 := by
  rw [emittedLength_eq]; omega

end Sys2Proof.Machine
end

