-- ==== Sys2Proof/Laws/Memory.lean ====
section
/-! SUPPORT. The pixel buffer: every operation keeps its one form (`Memory.wf`), and reads after writes. -/

namespace Sys2Proof.Machine

@[simp] theorem bufWrite_length (buf : List Pixel) (i : Nat) (p : Pixel) :
    (bufWrite buf i p).length = buf.length := by
  simp [bufWrite]

@[simp] theorem bufZero_length (k : Nat) : (bufZero k).length = k := by
  simp [bufZero]

@[simp] theorem memWrite_length (buf : List Pixel) (a : Nat) (v : Byte) :
    (memWrite buf a v).length = buf.length := by
  simp [memWrite]

/-- SET_PIXEL's write keeps the buffer's form. -/
theorem bufWrite_wf {n : BitVec 16} {buf : List Pixel} (h : Memory.wf n buf) (i : Nat) (p : Pixel) :
    Memory.wf n (bufWrite buf i p) := by
  simpa [Memory.wf] using h

/-- A byte write keeps the buffer's form. -/
theorem memWrite_wf {n : BitVec 16} {buf : List Pixel} (h : Memory.wf n buf) (a : Nat) (v : Byte) :
    Memory.wf n (memWrite buf a v) := by
  simpa [Memory.wf] using h

/-- The zero fill of CONFIGURE and CLEAR has the buffer's form. -/
theorem bufZero_wf (n : BitVec 16) : Memory.wf n (bufZero n.toNat) := by
  simp [Memory.wf]

/-- An empty buffer has the form for LED count 0: at reset and after RELEASE. -/
theorem empty_wf : Memory.wf 0 [] := rfl

/-- The buffer at reset has its form. -/
theorem reset_memory_wf : Memory.wf State.reset.n State.reset.buf := rfl

theorem bufWrite_getElem? (buf : List Pixel) (i j : Nat) (p : Pixel) :
    (bufWrite buf i p)[j]? = if i = j ∧ j < buf.length then some p else buf[j]? := by
  rw [bufWrite, List.getElem?_set]
  split
  · next h => subst h; split <;> simp_all
  · next h => simp [h]

theorem component_setComponent (p : Pixel) (c d : Component) (v : Byte) :
    (p.setComponent c v).component d = if c = d then v else p.component d := by
  cases c <;> cases d <;> rfl

theorem bufZero_getElem? (k j : Nat) : (bufZero k)[j]? = if j < k then some Pixel.zero else none := by
  simp [bufZero, List.getElem?_replicate]

end Sys2Proof.Machine
end

