-- ==== Sys2Proof/Laws/State.lean ====
section
/-! SUPPORT. What every update of the state does to every field: one lemma per field per update, each true by
unfolding, so that no later proof unfolds a record update. -/

namespace Sys2Proof.Machine

/-! ### respond -/

@[simp] theorem respond_life (code : ResultCode) (sf : Bool) (ope : BitVec 4) (s : State) :
    (respond code sf ope s).life = s.life := rfl
@[simp] theorem respond_busy (code : ResultCode) (sf : Bool) (ope : BitVec 4) (s : State) :
    (respond code sf ope s).busy = s.busy := rfl
@[simp] theorem respond_variant (code : ResultCode) (sf : Bool) (ope : BitVec 4) (s : State) :
    (respond code sf ope s).variant = s.variant := rfl
@[simp] theorem respond_div (code : ResultCode) (sf : Bool) (ope : BitVec 4) (s : State) :
    (respond code sf ope s).div = s.div := rfl
@[simp] theorem respond_clkHz (code : ResultCode) (sf : Bool) (ope : BitVec 4) (s : State) :
    (respond code sf ope s).clkHz = s.clkHz := rfl
@[simp] theorem respond_n (code : ResultCode) (sf : Bool) (ope : BitVec 4) (s : State) :
    (respond code sf ope s).n = s.n := rfl
@[simp] theorem respond_ticks (code : ResultCode) (sf : Bool) (ope : BitVec 4) (s : State) :
    (respond code sf ope s).ticks = s.ticks := rfl
@[simp] theorem respond_buf (code : ResultCode) (sf : Bool) (ope : BitVec 4) (s : State) :
    (respond code sf ope s).buf = s.buf := rfl
@[simp] theorem respond_snap (code : ResultCode) (sf : Bool) (ope : BitVec 4) (s : State) :
    (respond code sf ope s).snap = s.snap := rfl
@[simp] theorem respond_items (code : ResultCode) (sf : Bool) (ope : BitVec 4) (s : State) :
    (respond code sf ope s).items = s.items := rfl
@[simp] theorem respond_fpos (code : ResultCode) (sf : Bool) (ope : BitVec 4) (s : State) :
    (respond code sf ope s).fpos = s.fpos := rfl
@[simp] theorem respond_flen (code : ResultCode) (sf : Bool) (ope : BitVec 4) (s : State) :
    (respond code sf ope s).flen = s.flen := rfl
@[simp] theorem respond_grant (code : ResultCode) (sf : Bool) (ope : BitVec 4) (s : State) :
    (respond code sf ope s).grant = s.grant := rfl
@[simp] theorem respond_reqBytes (code : ResultCode) (sf : Bool) (ope : BitVec 4) (s : State) :
    (respond code sf ope s).reqBytes = s.reqBytes := rfl
@[simp] theorem respond_lastSf (code : ResultCode) (sf : Bool) (ope : BitVec 4) (s : State) :
    (respond code sf ope s).lastSf = s.lastSf := rfl
@[simp] theorem respond_pend (code : ResultCode) (sf : Bool) (ope : BitVec 4) (s : State) :
    (respond code sf ope s).pend = none := rfl
@[simp] theorem respond_resp (code : ResultCode) (sf : Bool) (ope : BitVec 4) (s : State) :
    (respond code sf ope s).resp = some (responseWord code sf ope) := rfl
@[simp] theorem respond_line (code : ResultCode) (sf : Bool) (ope : BitVec 4) (s : State) :
    (respond code sf ope s).line = s.line := rfl
@[simp] theorem respond_fault (code : ResultCode) (sf : Bool) (ope : BitVec 4) (s : State) :
    (respond code sf ope s).fault = s.fault := rfl
@[simp] theorem respond_elapsed (code : ResultCode) (sf : Bool) (ope : BitVec 4) (s : State) :
    (respond code sf ope s).elapsed = s.elapsed := rfl
@[simp] theorem respond_wire (code : ResultCode) (sf : Bool) (ope : BitVec 4) (s : State) :
    (respond code sf ope s).wire = s.wire := rfl
@[simp] theorem respond_host (code : ResultCode) (sf : Bool) (ope : BitVec 4) (s : State) :
    (respond code sf ope s).host = s.host := rfl
@[simp] theorem respond_seen (code : ResultCode) (sf : Bool) (ope : BitVec 4) (s : State) :
    (respond code sf ope s).seen = s.seen := rfl
@[simp] theorem respond_resets (code : ResultCode) (sf : Bool) (ope : BitVec 4) (s : State) :
    (respond code sf ope s).resets = s.resets := rfl
@[simp] theorem respond_gapsLeft (code : ResultCode) (sf : Bool) (ope : BitVec 4) (s : State) :
    (respond code sf ope s).gapsLeft = s.gapsLeft := rfl
@[simp] theorem respond_draws (code : ResultCode) (sf : Bool) (ope : BitVec 4) (s : State) :
    (respond code sf ope s).draws = s.draws := rfl

/-! ### raiseFault -/

@[simp] theorem raiseFault_life (r : FaultReason) (s : State) : (raiseFault r s).life = s.life := rfl
@[simp] theorem raiseFault_busy (r : FaultReason) (s : State) : (raiseFault r s).busy = s.busy := rfl
@[simp] theorem raiseFault_variant (r : FaultReason) (s : State) : (raiseFault r s).variant = s.variant := rfl
@[simp] theorem raiseFault_div (r : FaultReason) (s : State) : (raiseFault r s).div = s.div := rfl
@[simp] theorem raiseFault_clkHz (r : FaultReason) (s : State) : (raiseFault r s).clkHz = s.clkHz := rfl
@[simp] theorem raiseFault_n (r : FaultReason) (s : State) : (raiseFault r s).n = s.n := rfl
@[simp] theorem raiseFault_ticks (r : FaultReason) (s : State) : (raiseFault r s).ticks = s.ticks := rfl
@[simp] theorem raiseFault_buf (r : FaultReason) (s : State) : (raiseFault r s).buf = s.buf := rfl
@[simp] theorem raiseFault_snap (r : FaultReason) (s : State) : (raiseFault r s).snap = s.snap := rfl
@[simp] theorem raiseFault_items (r : FaultReason) (s : State) : (raiseFault r s).items = s.items := rfl
@[simp] theorem raiseFault_fpos (r : FaultReason) (s : State) : (raiseFault r s).fpos = s.fpos := rfl
@[simp] theorem raiseFault_flen (r : FaultReason) (s : State) : (raiseFault r s).flen = s.flen := rfl
@[simp] theorem raiseFault_grant (r : FaultReason) (s : State) : (raiseFault r s).grant = s.grant := rfl
@[simp] theorem raiseFault_reqBytes (r : FaultReason) (s : State) :
    (raiseFault r s).reqBytes = s.reqBytes := rfl
@[simp] theorem raiseFault_lastSf (r : FaultReason) (s : State) : (raiseFault r s).lastSf = s.lastSf := rfl
@[simp] theorem raiseFault_pend (r : FaultReason) (s : State) : (raiseFault r s).pend = s.pend := rfl
@[simp] theorem raiseFault_resp (r : FaultReason) (s : State) : (raiseFault r s).resp = s.resp := rfl
@[simp] theorem raiseFault_line (r : FaultReason) (s : State) : (raiseFault r s).line = s.line := rfl
@[simp] theorem raiseFault_fault (r : FaultReason) (s : State) : (raiseFault r s).fault = some r := rfl
@[simp] theorem raiseFault_elapsed (r : FaultReason) (s : State) : (raiseFault r s).elapsed = s.elapsed := rfl
@[simp] theorem raiseFault_wire (r : FaultReason) (s : State) : (raiseFault r s).wire = s.wire := rfl
@[simp] theorem raiseFault_host (r : FaultReason) (s : State) : (raiseFault r s).host = s.host := rfl
@[simp] theorem raiseFault_seen (r : FaultReason) (s : State) : (raiseFault r s).seen = s.seen := rfl
@[simp] theorem raiseFault_resets (r : FaultReason) (s : State) : (raiseFault r s).resets = s.resets := rfl
@[simp] theorem raiseFault_gapsLeft (r : FaultReason) (s : State) :
    (raiseFault r s).gapsLeft = s.gapsLeft := rfl
@[simp] theorem raiseFault_draws (r : FaultReason) (s : State) : (raiseFault r s).draws = s.draws := rfl

/-! ### startPending -/

@[simp] theorem startPending_life (op : PendOp) (s : State) : (startPending op s).life = s.life := rfl
@[simp] theorem startPending_busy (op : PendOp) (s : State) : (startPending op s).busy = s.busy := rfl
@[simp] theorem startPending_variant (op : PendOp) (s : State) :
    (startPending op s).variant = s.variant := rfl
@[simp] theorem startPending_div (op : PendOp) (s : State) : (startPending op s).div = s.div := rfl
@[simp] theorem startPending_clkHz (op : PendOp) (s : State) : (startPending op s).clkHz = s.clkHz := rfl
@[simp] theorem startPending_n (op : PendOp) (s : State) : (startPending op s).n = s.n := rfl
@[simp] theorem startPending_ticks (op : PendOp) (s : State) : (startPending op s).ticks = s.ticks := rfl
@[simp] theorem startPending_buf (op : PendOp) (s : State) : (startPending op s).buf = s.buf := rfl
@[simp] theorem startPending_snap (op : PendOp) (s : State) : (startPending op s).snap = s.snap := rfl
@[simp] theorem startPending_items (op : PendOp) (s : State) : (startPending op s).items = s.items := rfl
@[simp] theorem startPending_fpos (op : PendOp) (s : State) : (startPending op s).fpos = s.fpos := rfl
@[simp] theorem startPending_flen (op : PendOp) (s : State) : (startPending op s).flen = s.flen := rfl
@[simp] theorem startPending_grant (op : PendOp) (s : State) : (startPending op s).grant = s.grant := rfl
@[simp] theorem startPending_reqBytes (op : PendOp) (s : State) :
    (startPending op s).reqBytes = s.reqBytes := rfl
@[simp] theorem startPending_lastSf (op : PendOp) (s : State) : (startPending op s).lastSf = s.lastSf := rfl
@[simp] theorem startPending_pend (op : PendOp) (s : State) :
    (startPending op s).pend = some ⟨op, false⟩ := rfl
@[simp] theorem startPending_resp (op : PendOp) (s : State) : (startPending op s).resp = s.resp := rfl
@[simp] theorem startPending_line (op : PendOp) (s : State) : (startPending op s).line = s.line := rfl
@[simp] theorem startPending_fault (op : PendOp) (s : State) : (startPending op s).fault = s.fault := rfl
@[simp] theorem startPending_elapsed (op : PendOp) (s : State) :
    (startPending op s).elapsed = s.elapsed := rfl
@[simp] theorem startPending_wire (op : PendOp) (s : State) : (startPending op s).wire = s.wire := rfl
@[simp] theorem startPending_host (op : PendOp) (s : State) : (startPending op s).host = s.host := rfl
@[simp] theorem startPending_seen (op : PendOp) (s : State) : (startPending op s).seen = s.seen := rfl
@[simp] theorem startPending_resets (op : PendOp) (s : State) : (startPending op s).resets = s.resets := rfl
@[simp] theorem startPending_gapsLeft (op : PendOp) (s : State) :
    (startPending op s).gapsLeft = s.gapsLeft := rfl
@[simp] theorem startPending_draws (op : PendOp) (s : State) : (startPending op s).draws = s.draws := rfl

/-! ### startTimer -/

@[simp] theorem startTimer_life (s : State) : (startTimer s).life = s.life := rfl
@[simp] theorem startTimer_busy (s : State) : (startTimer s).busy = s.busy := rfl
@[simp] theorem startTimer_variant (s : State) : (startTimer s).variant = s.variant := rfl
@[simp] theorem startTimer_div (s : State) : (startTimer s).div = s.div := rfl
@[simp] theorem startTimer_clkHz (s : State) : (startTimer s).clkHz = s.clkHz := rfl
@[simp] theorem startTimer_n (s : State) : (startTimer s).n = s.n := rfl
@[simp] theorem startTimer_ticks (s : State) : (startTimer s).ticks = s.ticks := rfl
@[simp] theorem startTimer_buf (s : State) : (startTimer s).buf = s.buf := rfl
@[simp] theorem startTimer_snap (s : State) : (startTimer s).snap = s.snap := rfl
@[simp] theorem startTimer_items (s : State) : (startTimer s).items = s.items := rfl
@[simp] theorem startTimer_fpos (s : State) : (startTimer s).fpos = s.fpos := rfl
@[simp] theorem startTimer_flen (s : State) : (startTimer s).flen = s.flen := rfl
@[simp] theorem startTimer_grant (s : State) : (startTimer s).grant = s.grant := rfl
@[simp] theorem startTimer_reqBytes (s : State) : (startTimer s).reqBytes = s.reqBytes := rfl
@[simp] theorem startTimer_lastSf (s : State) : (startTimer s).lastSf = s.lastSf := rfl
@[simp] theorem startTimer_pend (s : State) : (startTimer s).pend = s.pend := rfl
@[simp] theorem startTimer_resp (s : State) : (startTimer s).resp = s.resp := rfl
@[simp] theorem startTimer_line (s : State) : (startTimer s).line = s.line := rfl
@[simp] theorem startTimer_fault (s : State) : (startTimer s).fault = s.fault := rfl
@[simp] theorem startTimer_elapsed (s : State) : (startTimer s).elapsed = 0 := rfl
@[simp] theorem startTimer_wire (s : State) : (startTimer s).wire = s.wire := rfl
@[simp] theorem startTimer_host (s : State) : (startTimer s).host = s.host := rfl
@[simp] theorem startTimer_seen (s : State) : (startTimer s).seen = s.seen := rfl
@[simp] theorem startTimer_resets (s : State) : (startTimer s).resets = s.resets := rfl
@[simp] theorem startTimer_gapsLeft (s : State) : (startTimer s).gapsLeft = s.gapsLeft := rfl
@[simp] theorem startTimer_draws (s : State) : (startTimer s).draws = s.draws := rfl

/-! ### frameStartIn -/

@[simp] theorem frameStartIn_life (order : ChannelOrder) (s : State) :
    (frameStartIn order s).life = s.life := rfl
@[simp] theorem frameStartIn_busy (order : ChannelOrder) (s : State) :
    (frameStartIn order s).busy = true := rfl
@[simp] theorem frameStartIn_variant (order : ChannelOrder) (s : State) :
    (frameStartIn order s).variant = s.variant := rfl
@[simp] theorem frameStartIn_div (order : ChannelOrder) (s : State) :
    (frameStartIn order s).div = s.div := rfl
@[simp] theorem frameStartIn_clkHz (order : ChannelOrder) (s : State) :
    (frameStartIn order s).clkHz = s.clkHz := rfl
@[simp] theorem frameStartIn_n (order : ChannelOrder) (s : State) : (frameStartIn order s).n = s.n := rfl
@[simp] theorem frameStartIn_ticks (order : ChannelOrder) (s : State) :
    (frameStartIn order s).ticks = s.ticks := rfl
@[simp] theorem frameStartIn_buf (order : ChannelOrder) (s : State) :
    (frameStartIn order s).buf = s.buf := rfl
@[simp] theorem frameStartIn_snap (order : ChannelOrder) (s : State) :
    (frameStartIn order s).snap = s.buf := rfl
@[simp] theorem frameStartIn_items (order : ChannelOrder) (s : State) :
    (frameStartIn order s).items = (frameItems order s.ticks s.buf).take (emittedLength s.draws.grant.toNat s.n.toNat) := rfl
@[simp] theorem frameStartIn_fpos (order : ChannelOrder) (s : State) : (frameStartIn order s).fpos = 0 := rfl
@[simp] theorem frameStartIn_flen (order : ChannelOrder) (s : State) :
    (frameStartIn order s).flen = BitVec.ofNat 32 (emittedLength s.draws.grant.toNat s.n.toNat) := rfl
@[simp] theorem frameStartIn_grant (order : ChannelOrder) (s : State) :
    (frameStartIn order s).grant = s.draws.grant := rfl
@[simp] theorem frameStartIn_reqBytes (order : ChannelOrder) (s : State) :
    (frameStartIn order s).reqBytes = BitVec.ofNat 32 (requestBytes s.n.toNat) := rfl
@[simp] theorem frameStartIn_lastSf (order : ChannelOrder) (s : State) :
    (frameStartIn order s).lastSf = shortfall s.draws.grant.toNat s.n.toNat := rfl
@[simp] theorem frameStartIn_pend (order : ChannelOrder) (s : State) :
    (frameStartIn order s).pend = s.pend.map fun p => { p with started := true } := rfl
@[simp] theorem frameStartIn_resp (order : ChannelOrder) (s : State) :
    (frameStartIn order s).resp = s.resp := rfl
@[simp] theorem frameStartIn_line (order : ChannelOrder) (s : State) :
    (frameStartIn order s).line = s.line := rfl
@[simp] theorem frameStartIn_fault (order : ChannelOrder) (s : State) :
    (frameStartIn order s).fault = s.fault := rfl
@[simp] theorem frameStartIn_elapsed (order : ChannelOrder) (s : State) :
    (frameStartIn order s).elapsed = s.elapsed := rfl
@[simp] theorem frameStartIn_wire (order : ChannelOrder) (s : State) :
    (frameStartIn order s).wire = s.wire := rfl
@[simp] theorem frameStartIn_host (order : ChannelOrder) (s : State) :
    (frameStartIn order s).host = s.host := rfl
@[simp] theorem frameStartIn_seen (order : ChannelOrder) (s : State) :
    (frameStartIn order s).seen = s.seen := rfl
@[simp] theorem frameStartIn_resets (order : ChannelOrder) (s : State) :
    (frameStartIn order s).resets = s.resets := rfl
@[simp] theorem frameStartIn_gapsLeft (order : ChannelOrder) (s : State) :
    (frameStartIn order s).gapsLeft = s.draws.gapBudget := rfl
@[simp] theorem frameStartIn_draws (order : ChannelOrder) (s : State) :
    (frameStartIn order s).draws = s.draws := rfl

/-! ### frameStart -/

@[simp] theorem frameStart_life (s : State) : (frameStart s).life = s.life := rfl
@[simp] theorem frameStart_busy (s : State) : (frameStart s).busy = true := rfl
@[simp] theorem frameStart_variant (s : State) : (frameStart s).variant = s.variant := rfl
@[simp] theorem frameStart_div (s : State) : (frameStart s).div = s.div := rfl
@[simp] theorem frameStart_clkHz (s : State) : (frameStart s).clkHz = s.clkHz := rfl
@[simp] theorem frameStart_n (s : State) : (frameStart s).n = s.n := rfl
@[simp] theorem frameStart_ticks (s : State) : (frameStart s).ticks = s.ticks := rfl
@[simp] theorem frameStart_buf (s : State) : (frameStart s).buf = s.buf := rfl
@[simp] theorem frameStart_snap (s : State) : (frameStart s).snap = s.buf := rfl
@[simp] theorem frameStart_items (s : State) :
    (frameStart s).items = (frameItems Config.channelOrder s.ticks s.buf).take (emittedLength s.draws.grant.toNat s.n.toNat) := rfl
@[simp] theorem frameStart_fpos (s : State) : (frameStart s).fpos = 0 := rfl
@[simp] theorem frameStart_flen (s : State) :
    (frameStart s).flen = BitVec.ofNat 32 (emittedLength s.draws.grant.toNat s.n.toNat) := rfl
@[simp] theorem frameStart_grant (s : State) : (frameStart s).grant = s.draws.grant := rfl
@[simp] theorem frameStart_reqBytes (s : State) :
    (frameStart s).reqBytes = BitVec.ofNat 32 (requestBytes s.n.toNat) := rfl
@[simp] theorem frameStart_lastSf (s : State) :
    (frameStart s).lastSf = shortfall s.draws.grant.toNat s.n.toNat := rfl
@[simp] theorem frameStart_pend (s : State) :
    (frameStart s).pend = s.pend.map fun p => { p with started := true } := rfl
@[simp] theorem frameStart_resp (s : State) : (frameStart s).resp = s.resp := rfl
@[simp] theorem frameStart_line (s : State) : (frameStart s).line = s.line := rfl
@[simp] theorem frameStart_fault (s : State) : (frameStart s).fault = s.fault := rfl
@[simp] theorem frameStart_elapsed (s : State) : (frameStart s).elapsed = s.elapsed := rfl
@[simp] theorem frameStart_wire (s : State) : (frameStart s).wire = s.wire := rfl
@[simp] theorem frameStart_host (s : State) : (frameStart s).host = s.host := rfl
@[simp] theorem frameStart_seen (s : State) : (frameStart s).seen = s.seen := rfl
@[simp] theorem frameStart_resets (s : State) : (frameStart s).resets = s.resets := rfl
@[simp] theorem frameStart_gapsLeft (s : State) : (frameStart s).gapsLeft = s.draws.gapBudget := rfl
@[simp] theorem frameStart_draws (s : State) : (frameStart s).draws = s.draws := rfl

/-! ### freeStrip -/

@[simp] theorem freeStrip_life (s : State) : (freeStrip s).life = .released := rfl
@[simp] theorem freeStrip_busy (s : State) : (freeStrip s).busy = s.busy := rfl
@[simp] theorem freeStrip_variant (s : State) : (freeStrip s).variant = 0 := rfl
@[simp] theorem freeStrip_div (s : State) : (freeStrip s).div = 0 := rfl
@[simp] theorem freeStrip_clkHz (s : State) : (freeStrip s).clkHz = 0 := rfl
@[simp] theorem freeStrip_n (s : State) : (freeStrip s).n = 0 := rfl
@[simp] theorem freeStrip_ticks (s : State) : (freeStrip s).ticks = ⟨0, 0, 0, 0, 0, 0⟩ := rfl
@[simp] theorem freeStrip_buf (s : State) : (freeStrip s).buf = [] := rfl
@[simp] theorem freeStrip_snap (s : State) : (freeStrip s).snap = [] := rfl
@[simp] theorem freeStrip_items (s : State) : (freeStrip s).items = [] := rfl
@[simp] theorem freeStrip_fpos (s : State) : (freeStrip s).fpos = 0 := rfl
@[simp] theorem freeStrip_flen (s : State) : (freeStrip s).flen = 0 := rfl
@[simp] theorem freeStrip_grant (s : State) : (freeStrip s).grant = 0 := rfl
@[simp] theorem freeStrip_reqBytes (s : State) : (freeStrip s).reqBytes = 0 := rfl
@[simp] theorem freeStrip_lastSf (s : State) : (freeStrip s).lastSf = false := rfl
@[simp] theorem freeStrip_pend (s : State) : (freeStrip s).pend = s.pend := rfl
@[simp] theorem freeStrip_resp (s : State) : (freeStrip s).resp = s.resp := rfl
@[simp] theorem freeStrip_line (s : State) : (freeStrip s).line = s.line := rfl
@[simp] theorem freeStrip_fault (s : State) : (freeStrip s).fault = s.fault := rfl
@[simp] theorem freeStrip_elapsed (s : State) : (freeStrip s).elapsed = s.elapsed := rfl
@[simp] theorem freeStrip_wire (s : State) : (freeStrip s).wire = s.wire := rfl
@[simp] theorem freeStrip_host (s : State) : (freeStrip s).host = s.host := rfl
@[simp] theorem freeStrip_seen (s : State) : (freeStrip s).seen = s.seen := rfl
@[simp] theorem freeStrip_resets (s : State) : (freeStrip s).resets = s.resets := rfl
@[simp] theorem freeStrip_gapsLeft (s : State) : (freeStrip s).gapsLeft = s.gapsLeft := rfl
@[simp] theorem freeStrip_draws (s : State) : (freeStrip s).draws = s.draws := rfl

/-! ### releaseNow -/

@[simp] theorem releaseNow_life (s : State) : (releaseNow s).life = .released := rfl
@[simp] theorem releaseNow_busy (s : State) : (releaseNow s).busy = s.busy := rfl
@[simp] theorem releaseNow_variant (s : State) : (releaseNow s).variant = 0 := rfl
@[simp] theorem releaseNow_div (s : State) : (releaseNow s).div = 0 := rfl
@[simp] theorem releaseNow_clkHz (s : State) : (releaseNow s).clkHz = 0 := rfl
@[simp] theorem releaseNow_n (s : State) : (releaseNow s).n = 0 := rfl
@[simp] theorem releaseNow_ticks (s : State) : (releaseNow s).ticks = ⟨0, 0, 0, 0, 0, 0⟩ := rfl
@[simp] theorem releaseNow_buf (s : State) : (releaseNow s).buf = [] := rfl
@[simp] theorem releaseNow_snap (s : State) : (releaseNow s).snap = [] := rfl
@[simp] theorem releaseNow_items (s : State) : (releaseNow s).items = [] := rfl
@[simp] theorem releaseNow_fpos (s : State) : (releaseNow s).fpos = 0 := rfl
@[simp] theorem releaseNow_flen (s : State) : (releaseNow s).flen = 0 := rfl
@[simp] theorem releaseNow_grant (s : State) : (releaseNow s).grant = 0 := rfl
@[simp] theorem releaseNow_reqBytes (s : State) : (releaseNow s).reqBytes = 0 := rfl
@[simp] theorem releaseNow_lastSf (s : State) : (releaseNow s).lastSf = false := rfl
@[simp] theorem releaseNow_pend (s : State) : (releaseNow s).pend = none := rfl
@[simp] theorem releaseNow_resp (s : State) : (releaseNow s).resp = some (responseWord .ok false 0x5) := rfl
@[simp] theorem releaseNow_line (s : State) : (releaseNow s).line = s.line := rfl
@[simp] theorem releaseNow_fault (s : State) : (releaseNow s).fault = s.fault := rfl
@[simp] theorem releaseNow_elapsed (s : State) : (releaseNow s).elapsed = s.elapsed := rfl
@[simp] theorem releaseNow_wire (s : State) : (releaseNow s).wire = s.wire := rfl
@[simp] theorem releaseNow_host (s : State) : (releaseNow s).host = s.host := rfl
@[simp] theorem releaseNow_seen (s : State) : (releaseNow s).seen = s.seen := rfl
@[simp] theorem releaseNow_resets (s : State) : (releaseNow s).resets = s.resets := rfl
@[simp] theorem releaseNow_gapsLeft (s : State) : (releaseNow s).gapsLeft = s.gapsLeft := rfl
@[simp] theorem releaseNow_draws (s : State) : (releaseNow s).draws = s.draws := rfl

/-! ### blockReset -/

@[simp] theorem blockReset_life (s : State) : (blockReset s).life = .unconfigured := rfl
@[simp] theorem blockReset_busy (s : State) : (blockReset s).busy = false := rfl
@[simp] theorem blockReset_variant (s : State) : (blockReset s).variant = 0 := rfl
@[simp] theorem blockReset_div (s : State) : (blockReset s).div = 0 := rfl
@[simp] theorem blockReset_clkHz (s : State) : (blockReset s).clkHz = 0 := rfl
@[simp] theorem blockReset_n (s : State) : (blockReset s).n = 0 := rfl
@[simp] theorem blockReset_ticks (s : State) : (blockReset s).ticks = ⟨0, 0, 0, 0, 0, 0⟩ := rfl
@[simp] theorem blockReset_buf (s : State) : (blockReset s).buf = [] := rfl
@[simp] theorem blockReset_snap (s : State) : (blockReset s).snap = [] := rfl
@[simp] theorem blockReset_items (s : State) : (blockReset s).items = [] := rfl
@[simp] theorem blockReset_fpos (s : State) : (blockReset s).fpos = 0 := rfl
@[simp] theorem blockReset_flen (s : State) : (blockReset s).flen = 0 := rfl
@[simp] theorem blockReset_grant (s : State) : (blockReset s).grant = 0 := rfl
@[simp] theorem blockReset_reqBytes (s : State) : (blockReset s).reqBytes = 0 := rfl
@[simp] theorem blockReset_lastSf (s : State) : (blockReset s).lastSf = false := rfl
@[simp] theorem blockReset_pend (s : State) : (blockReset s).pend = none := rfl
@[simp] theorem blockReset_resp (s : State) : (blockReset s).resp = none := rfl
@[simp] theorem blockReset_line (s : State) : (blockReset s).line = .low := rfl
@[simp] theorem blockReset_fault (s : State) : (blockReset s).fault = s.fault := rfl
@[simp] theorem blockReset_elapsed (s : State) : (blockReset s).elapsed = 0 := rfl
@[simp] theorem blockReset_wire (s : State) : (blockReset s).wire = s.wire := rfl
@[simp] theorem blockReset_host (s : State) : (blockReset s).host = s.host := rfl
@[simp] theorem blockReset_seen (s : State) : (blockReset s).seen = s.seen := rfl
@[simp] theorem blockReset_resets (s : State) : (blockReset s).resets = s.resets := rfl
@[simp] theorem blockReset_gapsLeft (s : State) : (blockReset s).gapsLeft = 0 := rfl
@[simp] theorem blockReset_draws (s : State) : (blockReset s).draws = s.draws := rfl

/-! ### configureFails -/

@[simp] theorem configureFails_life (s : State) : (configureFails s).life = .failed := rfl
@[simp] theorem configureFails_busy (s : State) : (configureFails s).busy = s.busy := rfl
@[simp] theorem configureFails_variant (s : State) : (configureFails s).variant = s.variant := rfl
@[simp] theorem configureFails_div (s : State) : (configureFails s).div = s.div := rfl
@[simp] theorem configureFails_clkHz (s : State) : (configureFails s).clkHz = s.clkHz := rfl
@[simp] theorem configureFails_n (s : State) : (configureFails s).n = s.n := rfl
@[simp] theorem configureFails_ticks (s : State) : (configureFails s).ticks = s.ticks := rfl
@[simp] theorem configureFails_buf (s : State) : (configureFails s).buf = s.buf := rfl
@[simp] theorem configureFails_snap (s : State) : (configureFails s).snap = s.snap := rfl
@[simp] theorem configureFails_items (s : State) : (configureFails s).items = s.items := rfl
@[simp] theorem configureFails_fpos (s : State) : (configureFails s).fpos = s.fpos := rfl
@[simp] theorem configureFails_flen (s : State) : (configureFails s).flen = s.flen := rfl
@[simp] theorem configureFails_grant (s : State) : (configureFails s).grant = s.grant := rfl
@[simp] theorem configureFails_reqBytes (s : State) : (configureFails s).reqBytes = s.reqBytes := rfl
@[simp] theorem configureFails_lastSf (s : State) : (configureFails s).lastSf = s.lastSf := rfl
@[simp] theorem configureFails_pend (s : State) : (configureFails s).pend = none := rfl
@[simp] theorem configureFails_resp (s : State) :
    (configureFails s).resp = some (responseWord .deviceInitFailure false 0x1) := rfl
@[simp] theorem configureFails_line (s : State) : (configureFails s).line = s.line := rfl
@[simp] theorem configureFails_fault (s : State) : (configureFails s).fault = s.fault := rfl
@[simp] theorem configureFails_elapsed (s : State) : (configureFails s).elapsed = s.elapsed := rfl
@[simp] theorem configureFails_wire (s : State) : (configureFails s).wire = s.wire := rfl
@[simp] theorem configureFails_host (s : State) : (configureFails s).host = s.host := rfl
@[simp] theorem configureFails_seen (s : State) : (configureFails s).seen = s.seen := rfl
@[simp] theorem configureFails_resets (s : State) : (configureFails s).resets = s.resets := rfl
@[simp] theorem configureFails_gapsLeft (s : State) : (configureFails s).gapsLeft = s.gapsLeft := rfl
@[simp] theorem configureFails_draws (s : State) : (configureFails s).draws = s.draws := rfl

/-! ### configureStores -/

@[simp] theorem configureStores_life (v : BitVec 4) (d : BitVec 8) (c : BitVec 16) (k : BitVec 32) (t : TickFile) (s : State) :
    (configureStores v d c k t s).life = .active := rfl
@[simp] theorem configureStores_busy (v : BitVec 4) (d : BitVec 8) (c : BitVec 16) (k : BitVec 32) (t : TickFile) (s : State) :
    (configureStores v d c k t s).busy = false := rfl
@[simp] theorem configureStores_variant (v : BitVec 4) (d : BitVec 8) (c : BitVec 16) (k : BitVec 32) (t : TickFile) (s : State) :
    (configureStores v d c k t s).variant = v := rfl
@[simp] theorem configureStores_div (v : BitVec 4) (d : BitVec 8) (c : BitVec 16) (k : BitVec 32) (t : TickFile) (s : State) :
    (configureStores v d c k t s).div = d := rfl
@[simp] theorem configureStores_clkHz (v : BitVec 4) (d : BitVec 8) (c : BitVec 16) (k : BitVec 32) (t : TickFile) (s : State) :
    (configureStores v d c k t s).clkHz = k := rfl
@[simp] theorem configureStores_n (v : BitVec 4) (d : BitVec 8) (c : BitVec 16) (k : BitVec 32) (t : TickFile) (s : State) :
    (configureStores v d c k t s).n = c := rfl
@[simp] theorem configureStores_ticks (v : BitVec 4) (d : BitVec 8) (c : BitVec 16) (k : BitVec 32) (t : TickFile) (s : State) :
    (configureStores v d c k t s).ticks = t := rfl
@[simp] theorem configureStores_buf (v : BitVec 4) (d : BitVec 8) (c : BitVec 16) (k : BitVec 32) (t : TickFile) (s : State) :
    (configureStores v d c k t s).buf = bufZero c.toNat := rfl
@[simp] theorem configureStores_snap (v : BitVec 4) (d : BitVec 8) (c : BitVec 16) (k : BitVec 32) (t : TickFile) (s : State) :
    (configureStores v d c k t s).snap = s.snap := rfl
@[simp] theorem configureStores_items (v : BitVec 4) (d : BitVec 8) (c : BitVec 16) (k : BitVec 32) (t : TickFile) (s : State) :
    (configureStores v d c k t s).items = s.items := rfl
@[simp] theorem configureStores_fpos (v : BitVec 4) (d : BitVec 8) (c : BitVec 16) (k : BitVec 32) (t : TickFile) (s : State) :
    (configureStores v d c k t s).fpos = s.fpos := rfl
@[simp] theorem configureStores_flen (v : BitVec 4) (d : BitVec 8) (c : BitVec 16) (k : BitVec 32) (t : TickFile) (s : State) :
    (configureStores v d c k t s).flen = s.flen := rfl
@[simp] theorem configureStores_grant (v : BitVec 4) (d : BitVec 8) (c : BitVec 16) (k : BitVec 32) (t : TickFile) (s : State) :
    (configureStores v d c k t s).grant = s.grant := rfl
@[simp] theorem configureStores_reqBytes (v : BitVec 4) (d : BitVec 8) (c : BitVec 16) (k : BitVec 32) (t : TickFile) (s : State) :
    (configureStores v d c k t s).reqBytes = s.reqBytes := rfl
@[simp] theorem configureStores_lastSf (v : BitVec 4) (d : BitVec 8) (c : BitVec 16) (k : BitVec 32) (t : TickFile) (s : State) :
    (configureStores v d c k t s).lastSf = s.lastSf := rfl
@[simp] theorem configureStores_pend (v : BitVec 4) (d : BitVec 8) (c : BitVec 16) (k : BitVec 32) (t : TickFile) (s : State) :
    (configureStores v d c k t s).pend = none := rfl
@[simp] theorem configureStores_resp (v : BitVec 4) (d : BitVec 8) (c : BitVec 16) (k : BitVec 32) (t : TickFile) (s : State) :
    (configureStores v d c k t s).resp = some (responseWord .ok false 0x1) := rfl
@[simp] theorem configureStores_line (v : BitVec 4) (d : BitVec 8) (c : BitVec 16) (k : BitVec 32) (t : TickFile) (s : State) :
    (configureStores v d c k t s).line = s.line := rfl
@[simp] theorem configureStores_fault (v : BitVec 4) (d : BitVec 8) (c : BitVec 16) (k : BitVec 32) (t : TickFile) (s : State) :
    (configureStores v d c k t s).fault = s.fault := rfl
@[simp] theorem configureStores_elapsed (v : BitVec 4) (d : BitVec 8) (c : BitVec 16) (k : BitVec 32) (t : TickFile) (s : State) :
    (configureStores v d c k t s).elapsed = s.elapsed := rfl
@[simp] theorem configureStores_wire (v : BitVec 4) (d : BitVec 8) (c : BitVec 16) (k : BitVec 32) (t : TickFile) (s : State) :
    (configureStores v d c k t s).wire = s.wire := rfl
@[simp] theorem configureStores_host (v : BitVec 4) (d : BitVec 8) (c : BitVec 16) (k : BitVec 32) (t : TickFile) (s : State) :
    (configureStores v d c k t s).host = s.host := rfl
@[simp] theorem configureStores_seen (v : BitVec 4) (d : BitVec 8) (c : BitVec 16) (k : BitVec 32) (t : TickFile) (s : State) :
    (configureStores v d c k t s).seen = s.seen := rfl
@[simp] theorem configureStores_resets (v : BitVec 4) (d : BitVec 8) (c : BitVec 16) (k : BitVec 32) (t : TickFile) (s : State) :
    (configureStores v d c k t s).resets = s.resets := rfl
@[simp] theorem configureStores_gapsLeft (v : BitVec 4) (d : BitVec 8) (c : BitVec 16) (k : BitVec 32) (t : TickFile) (s : State) :
    (configureStores v d c k t s).gapsLeft = s.gapsLeft := rfl
@[simp] theorem configureStores_draws (v : BitVec 4) (d : BitVec 8) (c : BitVec 16) (k : BitVec 32) (t : TickFile) (s : State) :
    (configureStores v d c k t s).draws = s.draws := rfl

/-! ### zeroBuffer -/

@[simp] theorem zeroBuffer_life (s : State) : (zeroBuffer s).life = s.life := rfl
@[simp] theorem zeroBuffer_busy (s : State) : (zeroBuffer s).busy = s.busy := rfl
@[simp] theorem zeroBuffer_variant (s : State) : (zeroBuffer s).variant = s.variant := rfl
@[simp] theorem zeroBuffer_div (s : State) : (zeroBuffer s).div = s.div := rfl
@[simp] theorem zeroBuffer_clkHz (s : State) : (zeroBuffer s).clkHz = s.clkHz := rfl
@[simp] theorem zeroBuffer_n (s : State) : (zeroBuffer s).n = s.n := rfl
@[simp] theorem zeroBuffer_ticks (s : State) : (zeroBuffer s).ticks = s.ticks := rfl
@[simp] theorem zeroBuffer_buf (s : State) : (zeroBuffer s).buf = bufZero s.n.toNat := rfl
@[simp] theorem zeroBuffer_snap (s : State) : (zeroBuffer s).snap = s.snap := rfl
@[simp] theorem zeroBuffer_items (s : State) : (zeroBuffer s).items = s.items := rfl
@[simp] theorem zeroBuffer_fpos (s : State) : (zeroBuffer s).fpos = s.fpos := rfl
@[simp] theorem zeroBuffer_flen (s : State) : (zeroBuffer s).flen = s.flen := rfl
@[simp] theorem zeroBuffer_grant (s : State) : (zeroBuffer s).grant = s.grant := rfl
@[simp] theorem zeroBuffer_reqBytes (s : State) : (zeroBuffer s).reqBytes = s.reqBytes := rfl
@[simp] theorem zeroBuffer_lastSf (s : State) : (zeroBuffer s).lastSf = s.lastSf := rfl
@[simp] theorem zeroBuffer_pend (s : State) : (zeroBuffer s).pend = s.pend := rfl
@[simp] theorem zeroBuffer_resp (s : State) : (zeroBuffer s).resp = s.resp := rfl
@[simp] theorem zeroBuffer_line (s : State) : (zeroBuffer s).line = s.line := rfl
@[simp] theorem zeroBuffer_fault (s : State) : (zeroBuffer s).fault = s.fault := rfl
@[simp] theorem zeroBuffer_elapsed (s : State) : (zeroBuffer s).elapsed = s.elapsed := rfl
@[simp] theorem zeroBuffer_wire (s : State) : (zeroBuffer s).wire = s.wire := rfl
@[simp] theorem zeroBuffer_host (s : State) : (zeroBuffer s).host = s.host := rfl
@[simp] theorem zeroBuffer_seen (s : State) : (zeroBuffer s).seen = s.seen := rfl
@[simp] theorem zeroBuffer_resets (s : State) : (zeroBuffer s).resets = s.resets := rfl
@[simp] theorem zeroBuffer_gapsLeft (s : State) : (zeroBuffer s).gapsLeft = s.gapsLeft := rfl
@[simp] theorem zeroBuffer_draws (s : State) : (zeroBuffer s).draws = s.draws := rfl

/-! ### tickTimer -/

@[simp] theorem tickTimer_life (d : Nat) (s : State) : (tickTimer d s).life = s.life := rfl
@[simp] theorem tickTimer_busy (d : Nat) (s : State) : (tickTimer d s).busy = s.busy := rfl
@[simp] theorem tickTimer_variant (d : Nat) (s : State) : (tickTimer d s).variant = s.variant := rfl
@[simp] theorem tickTimer_div (d : Nat) (s : State) : (tickTimer d s).div = s.div := rfl
@[simp] theorem tickTimer_clkHz (d : Nat) (s : State) : (tickTimer d s).clkHz = s.clkHz := rfl
@[simp] theorem tickTimer_n (d : Nat) (s : State) : (tickTimer d s).n = s.n := rfl
@[simp] theorem tickTimer_ticks (d : Nat) (s : State) : (tickTimer d s).ticks = s.ticks := rfl
@[simp] theorem tickTimer_buf (d : Nat) (s : State) : (tickTimer d s).buf = s.buf := rfl
@[simp] theorem tickTimer_snap (d : Nat) (s : State) : (tickTimer d s).snap = s.snap := rfl
@[simp] theorem tickTimer_items (d : Nat) (s : State) : (tickTimer d s).items = s.items := rfl
@[simp] theorem tickTimer_fpos (d : Nat) (s : State) : (tickTimer d s).fpos = s.fpos := rfl
@[simp] theorem tickTimer_flen (d : Nat) (s : State) : (tickTimer d s).flen = s.flen := rfl
@[simp] theorem tickTimer_grant (d : Nat) (s : State) : (tickTimer d s).grant = s.grant := rfl
@[simp] theorem tickTimer_reqBytes (d : Nat) (s : State) : (tickTimer d s).reqBytes = s.reqBytes := rfl
@[simp] theorem tickTimer_lastSf (d : Nat) (s : State) : (tickTimer d s).lastSf = s.lastSf := rfl
@[simp] theorem tickTimer_pend (d : Nat) (s : State) : (tickTimer d s).pend = s.pend := rfl
@[simp] theorem tickTimer_resp (d : Nat) (s : State) : (tickTimer d s).resp = s.resp := rfl
@[simp] theorem tickTimer_line (d : Nat) (s : State) : (tickTimer d s).line = s.line := rfl
@[simp] theorem tickTimer_fault (d : Nat) (s : State) : (tickTimer d s).fault = s.fault := rfl
@[simp] theorem tickTimer_elapsed (d : Nat) (s : State) :
    (tickTimer d s).elapsed = if framePending s then s.elapsed + d else s.elapsed := rfl
@[simp] theorem tickTimer_wire (d : Nat) (s : State) : (tickTimer d s).wire = s.wire := rfl
@[simp] theorem tickTimer_host (d : Nat) (s : State) : (tickTimer d s).host = s.host := rfl
@[simp] theorem tickTimer_seen (d : Nat) (s : State) : (tickTimer d s).seen = s.seen := rfl
@[simp] theorem tickTimer_resets (d : Nat) (s : State) : (tickTimer d s).resets = s.resets := rfl
@[simp] theorem tickTimer_gapsLeft (d : Nat) (s : State) : (tickTimer d s).gapsLeft = s.gapsLeft := rfl
@[simp] theorem tickTimer_draws (d : Nat) (s : State) : (tickTimer d s).draws = s.draws := rfl

/-! ### drive -/

@[simp] theorem drive_life (e : WireEvent) (s : State) : (drive e s).life = s.life := rfl
@[simp] theorem drive_busy (e : WireEvent) (s : State) : (drive e s).busy = s.busy := rfl
@[simp] theorem drive_variant (e : WireEvent) (s : State) : (drive e s).variant = s.variant := rfl
@[simp] theorem drive_div (e : WireEvent) (s : State) : (drive e s).div = s.div := rfl
@[simp] theorem drive_clkHz (e : WireEvent) (s : State) : (drive e s).clkHz = s.clkHz := rfl
@[simp] theorem drive_n (e : WireEvent) (s : State) : (drive e s).n = s.n := rfl
@[simp] theorem drive_ticks (e : WireEvent) (s : State) : (drive e s).ticks = s.ticks := rfl
@[simp] theorem drive_buf (e : WireEvent) (s : State) : (drive e s).buf = s.buf := rfl
@[simp] theorem drive_snap (e : WireEvent) (s : State) : (drive e s).snap = s.snap := rfl
@[simp] theorem drive_items (e : WireEvent) (s : State) : (drive e s).items = s.items := rfl
@[simp] theorem drive_fpos (e : WireEvent) (s : State) : (drive e s).fpos = s.fpos := rfl
@[simp] theorem drive_flen (e : WireEvent) (s : State) : (drive e s).flen = s.flen := rfl
@[simp] theorem drive_grant (e : WireEvent) (s : State) : (drive e s).grant = s.grant := rfl
@[simp] theorem drive_reqBytes (e : WireEvent) (s : State) : (drive e s).reqBytes = s.reqBytes := rfl
@[simp] theorem drive_lastSf (e : WireEvent) (s : State) : (drive e s).lastSf = s.lastSf := rfl
@[simp] theorem drive_pend (e : WireEvent) (s : State) : (drive e s).pend = s.pend := rfl
@[simp] theorem drive_resp (e : WireEvent) (s : State) : (drive e s).resp = s.resp := rfl
@[simp] theorem drive_line (e : WireEvent) (s : State) : (drive e s).line = .low := rfl
@[simp] theorem drive_fault (e : WireEvent) (s : State) : (drive e s).fault = s.fault := rfl
@[simp] theorem drive_elapsed (e : WireEvent) (s : State) :
    (drive e s).elapsed = if framePending s then s.elapsed + wireTicks e else s.elapsed := rfl
@[simp] theorem drive_wire (e : WireEvent) (s : State) : (drive e s).wire = s.wire ++ [e] := rfl
@[simp] theorem drive_host (e : WireEvent) (s : State) : (drive e s).host = s.host := rfl
@[simp] theorem drive_seen (e : WireEvent) (s : State) : (drive e s).seen = s.seen := rfl
@[simp] theorem drive_resets (e : WireEvent) (s : State) : (drive e s).resets = s.resets := rfl
@[simp] theorem drive_gapsLeft (e : WireEvent) (s : State) : (drive e s).gapsLeft = s.gapsLeft := rfl
@[simp] theorem drive_draws (e : WireEvent) (s : State) : (drive e s).draws = s.draws := rfl

/-! ### emitItem -/

@[simp] theorem emitItem_life (ch : Nat) (it : PulseItem) (s : State) :
    (emitItem ch it s).life = s.life := rfl
@[simp] theorem emitItem_busy (ch : Nat) (it : PulseItem) (s : State) :
    (emitItem ch it s).busy = s.busy := rfl
@[simp] theorem emitItem_variant (ch : Nat) (it : PulseItem) (s : State) :
    (emitItem ch it s).variant = s.variant := rfl
@[simp] theorem emitItem_div (ch : Nat) (it : PulseItem) (s : State) : (emitItem ch it s).div = s.div := rfl
@[simp] theorem emitItem_clkHz (ch : Nat) (it : PulseItem) (s : State) :
    (emitItem ch it s).clkHz = s.clkHz := rfl
@[simp] theorem emitItem_n (ch : Nat) (it : PulseItem) (s : State) : (emitItem ch it s).n = s.n := rfl
@[simp] theorem emitItem_ticks (ch : Nat) (it : PulseItem) (s : State) :
    (emitItem ch it s).ticks = s.ticks := rfl
@[simp] theorem emitItem_buf (ch : Nat) (it : PulseItem) (s : State) : (emitItem ch it s).buf = s.buf := rfl
@[simp] theorem emitItem_snap (ch : Nat) (it : PulseItem) (s : State) :
    (emitItem ch it s).snap = s.snap := rfl
@[simp] theorem emitItem_items (ch : Nat) (it : PulseItem) (s : State) :
    (emitItem ch it s).items = s.items := rfl
@[simp] theorem emitItem_fpos (ch : Nat) (it : PulseItem) (s : State) :
    (emitItem ch it s).fpos = s.fpos + 1 := rfl
@[simp] theorem emitItem_flen (ch : Nat) (it : PulseItem) (s : State) :
    (emitItem ch it s).flen = s.flen := rfl
@[simp] theorem emitItem_grant (ch : Nat) (it : PulseItem) (s : State) :
    (emitItem ch it s).grant = s.grant := rfl
@[simp] theorem emitItem_reqBytes (ch : Nat) (it : PulseItem) (s : State) :
    (emitItem ch it s).reqBytes = s.reqBytes := rfl
@[simp] theorem emitItem_lastSf (ch : Nat) (it : PulseItem) (s : State) :
    (emitItem ch it s).lastSf = s.lastSf := rfl
@[simp] theorem emitItem_pend (ch : Nat) (it : PulseItem) (s : State) :
    (emitItem ch it s).pend = s.pend := rfl
@[simp] theorem emitItem_resp (ch : Nat) (it : PulseItem) (s : State) :
    (emitItem ch it s).resp = s.resp := rfl
@[simp] theorem emitItem_line (ch : Nat) (it : PulseItem) (s : State) : (emitItem ch it s).line = .low := rfl
@[simp] theorem emitItem_fault (ch : Nat) (it : PulseItem) (s : State) :
    (emitItem ch it s).fault = s.fault := rfl
@[simp] theorem emitItem_elapsed (ch : Nat) (it : PulseItem) (s : State) :
    (emitItem ch it s).elapsed = if framePending s then s.elapsed + itemTicks it else s.elapsed := rfl
@[simp] theorem emitItem_wire (ch : Nat) (it : PulseItem) (s : State) :
    (emitItem ch it s).wire = s.wire ++ [.item ch it.h it.l] := rfl
@[simp] theorem emitItem_host (ch : Nat) (it : PulseItem) (s : State) :
    (emitItem ch it s).host = s.host := rfl
@[simp] theorem emitItem_seen (ch : Nat) (it : PulseItem) (s : State) :
    (emitItem ch it s).seen = s.seen := rfl
@[simp] theorem emitItem_resets (ch : Nat) (it : PulseItem) (s : State) :
    (emitItem ch it s).resets = s.resets := rfl
@[simp] theorem emitItem_gapsLeft (ch : Nat) (it : PulseItem) (s : State) :
    (emitItem ch it s).gapsLeft = s.gapsLeft := rfl
@[simp] theorem emitItem_draws (ch : Nat) (it : PulseItem) (s : State) :
    (emitItem ch it s).draws = s.draws := rfl

/-! ### gapStep -/

@[simp] theorem gapStep_life (s : State) : (gapStep s).life = s.life := rfl
@[simp] theorem gapStep_busy (s : State) : (gapStep s).busy = s.busy := rfl
@[simp] theorem gapStep_variant (s : State) : (gapStep s).variant = s.variant := rfl
@[simp] theorem gapStep_div (s : State) : (gapStep s).div = s.div := rfl
@[simp] theorem gapStep_clkHz (s : State) : (gapStep s).clkHz = s.clkHz := rfl
@[simp] theorem gapStep_n (s : State) : (gapStep s).n = s.n := rfl
@[simp] theorem gapStep_ticks (s : State) : (gapStep s).ticks = s.ticks := rfl
@[simp] theorem gapStep_buf (s : State) : (gapStep s).buf = s.buf := rfl
@[simp] theorem gapStep_snap (s : State) : (gapStep s).snap = s.snap := rfl
@[simp] theorem gapStep_items (s : State) : (gapStep s).items = s.items := rfl
@[simp] theorem gapStep_fpos (s : State) : (gapStep s).fpos = s.fpos := rfl
@[simp] theorem gapStep_flen (s : State) : (gapStep s).flen = s.flen := rfl
@[simp] theorem gapStep_grant (s : State) : (gapStep s).grant = s.grant := rfl
@[simp] theorem gapStep_reqBytes (s : State) : (gapStep s).reqBytes = s.reqBytes := rfl
@[simp] theorem gapStep_lastSf (s : State) : (gapStep s).lastSf = s.lastSf := rfl
@[simp] theorem gapStep_pend (s : State) : (gapStep s).pend = s.pend := rfl
@[simp] theorem gapStep_resp (s : State) : (gapStep s).resp = s.resp := rfl
@[simp] theorem gapStep_line (s : State) : (gapStep s).line = .low := rfl
@[simp] theorem gapStep_fault (s : State) : (gapStep s).fault = s.fault := rfl
@[simp] theorem gapStep_elapsed (s : State) :
    (gapStep s).elapsed = if framePending s then s.elapsed + (s.draws.gapTicks + 1) else s.elapsed := rfl
@[simp] theorem gapStep_wire (s : State) :
    (gapStep s).wire = s.wire ++ [.gap Config.channel (s.draws.gapTicks + 1)] := rfl
@[simp] theorem gapStep_host (s : State) : (gapStep s).host = s.host := rfl
@[simp] theorem gapStep_seen (s : State) : (gapStep s).seen = s.seen := rfl
@[simp] theorem gapStep_resets (s : State) : (gapStep s).resets = s.resets := rfl
@[simp] theorem gapStep_gapsLeft (s : State) : (gapStep s).gapsLeft = s.gapsLeft - 1 := rfl
@[simp] theorem gapStep_draws (s : State) : (gapStep s).draws = s.draws := rfl

/-! ### readRegister -/

@[simp] theorem readRegister_life (sel : BitVec 4) (s : State) : (readRegister sel s).life = s.life := rfl
@[simp] theorem readRegister_busy (sel : BitVec 4) (s : State) : (readRegister sel s).busy = s.busy := rfl
@[simp] theorem readRegister_variant (sel : BitVec 4) (s : State) :
    (readRegister sel s).variant = s.variant := rfl
@[simp] theorem readRegister_div (sel : BitVec 4) (s : State) : (readRegister sel s).div = s.div := rfl
@[simp] theorem readRegister_clkHz (sel : BitVec 4) (s : State) : (readRegister sel s).clkHz = s.clkHz := rfl
@[simp] theorem readRegister_n (sel : BitVec 4) (s : State) : (readRegister sel s).n = s.n := rfl
@[simp] theorem readRegister_ticks (sel : BitVec 4) (s : State) : (readRegister sel s).ticks = s.ticks := rfl
@[simp] theorem readRegister_buf (sel : BitVec 4) (s : State) : (readRegister sel s).buf = s.buf := rfl
@[simp] theorem readRegister_snap (sel : BitVec 4) (s : State) : (readRegister sel s).snap = s.snap := rfl
@[simp] theorem readRegister_items (sel : BitVec 4) (s : State) : (readRegister sel s).items = s.items := rfl
@[simp] theorem readRegister_fpos (sel : BitVec 4) (s : State) : (readRegister sel s).fpos = s.fpos := rfl
@[simp] theorem readRegister_flen (sel : BitVec 4) (s : State) : (readRegister sel s).flen = s.flen := rfl
@[simp] theorem readRegister_grant (sel : BitVec 4) (s : State) : (readRegister sel s).grant = s.grant := rfl
@[simp] theorem readRegister_reqBytes (sel : BitVec 4) (s : State) :
    (readRegister sel s).reqBytes = s.reqBytes := rfl
@[simp] theorem readRegister_lastSf (sel : BitVec 4) (s : State) :
    (readRegister sel s).lastSf = s.lastSf := rfl
@[simp] theorem readRegister_pend (sel : BitVec 4) (s : State) : (readRegister sel s).pend = s.pend := rfl
@[simp] theorem readRegister_resp (sel : BitVec 4) (s : State) : (readRegister sel s).resp = s.resp := rfl
@[simp] theorem readRegister_line (sel : BitVec 4) (s : State) : (readRegister sel s).line = s.line := rfl
@[simp] theorem readRegister_fault (sel : BitVec 4) (s : State) : (readRegister sel s).fault = s.fault := rfl
@[simp] theorem readRegister_elapsed (sel : BitVec 4) (s : State) :
    (readRegister sel s).elapsed = s.elapsed := rfl
@[simp] theorem readRegister_wire (sel : BitVec 4) (s : State) : (readRegister sel s).wire = s.wire := rfl
@[simp] theorem readRegister_host (sel : BitVec 4) (s : State) : (readRegister sel s).host = s.host := rfl
@[simp] theorem readRegister_seen (sel : BitVec 4) (s : State) :
    (readRegister sel s).seen = s.seen ++ [.bank sel (readBank s sel)] := rfl
@[simp] theorem readRegister_resets (sel : BitVec 4) (s : State) :
    (readRegister sel s).resets = s.resets := rfl
@[simp] theorem readRegister_gapsLeft (sel : BitVec 4) (s : State) :
    (readRegister sel s).gapsLeft = s.gapsLeft := rfl
@[simp] theorem readRegister_draws (sel : BitVec 4) (s : State) : (readRegister sel s).draws = s.draws := rfl

/-! ### resetStep -/

@[simp] theorem resetStep_life (s : State) : (resetStep s).life = .unconfigured := rfl
@[simp] theorem resetStep_busy (s : State) : (resetStep s).busy = false := rfl
@[simp] theorem resetStep_variant (s : State) : (resetStep s).variant = 0 := rfl
@[simp] theorem resetStep_div (s : State) : (resetStep s).div = 0 := rfl
@[simp] theorem resetStep_clkHz (s : State) : (resetStep s).clkHz = 0 := rfl
@[simp] theorem resetStep_n (s : State) : (resetStep s).n = 0 := rfl
@[simp] theorem resetStep_ticks (s : State) : (resetStep s).ticks = ⟨0, 0, 0, 0, 0, 0⟩ := rfl
@[simp] theorem resetStep_buf (s : State) : (resetStep s).buf = [] := rfl
@[simp] theorem resetStep_snap (s : State) : (resetStep s).snap = [] := rfl
@[simp] theorem resetStep_items (s : State) : (resetStep s).items = [] := rfl
@[simp] theorem resetStep_fpos (s : State) : (resetStep s).fpos = 0 := rfl
@[simp] theorem resetStep_flen (s : State) : (resetStep s).flen = 0 := rfl
@[simp] theorem resetStep_grant (s : State) : (resetStep s).grant = 0 := rfl
@[simp] theorem resetStep_reqBytes (s : State) : (resetStep s).reqBytes = 0 := rfl
@[simp] theorem resetStep_lastSf (s : State) : (resetStep s).lastSf = false := rfl
@[simp] theorem resetStep_pend (s : State) : (resetStep s).pend = none := rfl
@[simp] theorem resetStep_resp (s : State) : (resetStep s).resp = none := rfl
@[simp] theorem resetStep_line (s : State) : (resetStep s).line = .low := rfl
@[simp] theorem resetStep_fault (s : State) : (resetStep s).fault = s.fault := rfl
@[simp] theorem resetStep_elapsed (s : State) : (resetStep s).elapsed = 0 := rfl
@[simp] theorem resetStep_wire (s : State) : (resetStep s).wire = s.wire := rfl
@[simp] theorem resetStep_host (s : State) : (resetStep s).host = s.host := rfl
@[simp] theorem resetStep_seen (s : State) : (resetStep s).seen = s.seen := rfl
@[simp] theorem resetStep_resets (s : State) : (resetStep s).resets = s.resets - 1 := rfl
@[simp] theorem resetStep_gapsLeft (s : State) : (resetStep s).gapsLeft = 0 := rfl
@[simp] theorem resetStep_draws (s : State) : (resetStep s).draws = s.draws := rfl

/-! ### freshDraws -/

@[simp] theorem freshDraws_life (s : State) : (freshDraws s).life = s.life := rfl
@[simp] theorem freshDraws_busy (s : State) : (freshDraws s).busy = s.busy := rfl
@[simp] theorem freshDraws_variant (s : State) : (freshDraws s).variant = s.variant := rfl
@[simp] theorem freshDraws_div (s : State) : (freshDraws s).div = s.div := rfl
@[simp] theorem freshDraws_clkHz (s : State) : (freshDraws s).clkHz = s.clkHz := rfl
@[simp] theorem freshDraws_n (s : State) : (freshDraws s).n = s.n := rfl
@[simp] theorem freshDraws_ticks (s : State) : (freshDraws s).ticks = s.ticks := rfl
@[simp] theorem freshDraws_buf (s : State) : (freshDraws s).buf = s.buf := rfl
@[simp] theorem freshDraws_snap (s : State) : (freshDraws s).snap = s.snap := rfl
@[simp] theorem freshDraws_items (s : State) : (freshDraws s).items = s.items := rfl
@[simp] theorem freshDraws_fpos (s : State) : (freshDraws s).fpos = s.fpos := rfl
@[simp] theorem freshDraws_flen (s : State) : (freshDraws s).flen = s.flen := rfl
@[simp] theorem freshDraws_grant (s : State) : (freshDraws s).grant = s.grant := rfl
@[simp] theorem freshDraws_reqBytes (s : State) : (freshDraws s).reqBytes = s.reqBytes := rfl
@[simp] theorem freshDraws_lastSf (s : State) : (freshDraws s).lastSf = s.lastSf := rfl
@[simp] theorem freshDraws_pend (s : State) : (freshDraws s).pend = s.pend := rfl
@[simp] theorem freshDraws_resp (s : State) : (freshDraws s).resp = s.resp := rfl
@[simp] theorem freshDraws_line (s : State) : (freshDraws s).line = s.line := rfl
@[simp] theorem freshDraws_fault (s : State) : (freshDraws s).fault = s.fault := rfl
@[simp] theorem freshDraws_elapsed (s : State) : (freshDraws s).elapsed = s.elapsed := rfl
@[simp] theorem freshDraws_wire (s : State) : (freshDraws s).wire = s.wire := rfl
@[simp] theorem freshDraws_host (s : State) : (freshDraws s).host = s.host := rfl
@[simp] theorem freshDraws_seen (s : State) : (freshDraws s).seen = s.seen := rfl
@[simp] theorem freshDraws_resets (s : State) : (freshDraws s).resets = s.resets := rfl
@[simp] theorem freshDraws_gapsLeft (s : State) : (freshDraws s).gapsLeft = s.gapsLeft := rfl
@[simp] theorem freshDraws_draws (s : State) : (freshDraws s).draws = nextDraws s.draws := rfl

/-! ### withWrite -/

@[simp] theorem withWrite_life (w : CmdWord) (s : State) : (withWrite w s).life = s.life := rfl
@[simp] theorem withWrite_busy (w : CmdWord) (s : State) : (withWrite w s).busy = s.busy := rfl
@[simp] theorem withWrite_variant (w : CmdWord) (s : State) : (withWrite w s).variant = s.variant := rfl
@[simp] theorem withWrite_div (w : CmdWord) (s : State) : (withWrite w s).div = s.div := rfl
@[simp] theorem withWrite_clkHz (w : CmdWord) (s : State) : (withWrite w s).clkHz = s.clkHz := rfl
@[simp] theorem withWrite_n (w : CmdWord) (s : State) : (withWrite w s).n = s.n := rfl
@[simp] theorem withWrite_ticks (w : CmdWord) (s : State) : (withWrite w s).ticks = s.ticks := rfl
@[simp] theorem withWrite_buf (w : CmdWord) (s : State) : (withWrite w s).buf = s.buf := rfl
@[simp] theorem withWrite_snap (w : CmdWord) (s : State) : (withWrite w s).snap = s.snap := rfl
@[simp] theorem withWrite_items (w : CmdWord) (s : State) : (withWrite w s).items = s.items := rfl
@[simp] theorem withWrite_fpos (w : CmdWord) (s : State) : (withWrite w s).fpos = s.fpos := rfl
@[simp] theorem withWrite_flen (w : CmdWord) (s : State) : (withWrite w s).flen = s.flen := rfl
@[simp] theorem withWrite_grant (w : CmdWord) (s : State) : (withWrite w s).grant = s.grant := rfl
@[simp] theorem withWrite_reqBytes (w : CmdWord) (s : State) : (withWrite w s).reqBytes = s.reqBytes := rfl
@[simp] theorem withWrite_lastSf (w : CmdWord) (s : State) : (withWrite w s).lastSf = s.lastSf := rfl
@[simp] theorem withWrite_pend (w : CmdWord) (s : State) : (withWrite w s).pend = none := rfl
@[simp] theorem withWrite_resp (w : CmdWord) (s : State) : (withWrite w s).resp = none := rfl
@[simp] theorem withWrite_line (w : CmdWord) (s : State) : (withWrite w s).line = s.line := rfl
@[simp] theorem withWrite_fault (w : CmdWord) (s : State) : (withWrite w s).fault = none := rfl
@[simp] theorem withWrite_elapsed (w : CmdWord) (s : State) : (withWrite w s).elapsed = s.elapsed := rfl
@[simp] theorem withWrite_wire (w : CmdWord) (s : State) : (withWrite w s).wire = s.wire := rfl
@[simp] theorem withWrite_host (w : CmdWord) (s : State) : (withWrite w s).host = .write w :: s.host := rfl
@[simp] theorem withWrite_seen (w : CmdWord) (s : State) : (withWrite w s).seen = s.seen := rfl
@[simp] theorem withWrite_resets (w : CmdWord) (s : State) : (withWrite w s).resets = s.resets := rfl
@[simp] theorem withWrite_gapsLeft (w : CmdWord) (s : State) : (withWrite w s).gapsLeft = s.gapsLeft := rfl
@[simp] theorem withWrite_draws (w : CmdWord) (s : State) :
    (withWrite w s).draws = { s.draws with pick := 0 } := rfl

end Sys2Proof.Machine
end

