-- ==== Sys2Proof/Laws/Ops.lean ====
section
/-! SUPPORT. What each shared operation can do, said once: the command port, the LIFE checks, exec by
constructor, which steps are enabled, and what a step answers. -/

namespace Sys2Proof.Machine

/-! ### The command port and the LIFE checks -/

theorem portReady_iff (s : State) :
    portReady s = true ↔ s.pend = none ∧ s.resp = none ∧ s.fault = none := by
  simp [portReady, and_assoc]

theorem accept_ready {s : State} (h : portReady s = true) (k : State → State) :
    accept s k = .next (k s) := by
  simp [accept, h]

theorem accept_not_ready {s : State} (h : portReady s = false) (k : State → State) :
    accept s k = .fault .portNotReady := by
  simp [accept, h]

/-- An accepted word went to a ready port and had its effect. -/
theorem accept_next {s t : State} {k : State → State} (h : accept s k = .next t) :
    portReady s = true ∧ t = k s := by
  unfold accept at h
  split at h
  · next hr => exact ⟨hr, by cases h; rfl⟩
  · cases h

theorem whenActive_active {s : State} (h : s.life = .active) (k : State → State) :
    whenActive s k = k s := by
  simp [whenActive, h]

theorem whenUnconfigured_unconfigured {s : State} (h : s.life = .unconfigured) (k : State → State) :
    whenUnconfigured s k = k s := by
  simp [whenUnconfigured, h]

/-- A legal word other than CONFIGURE has its effect on an ACTIVE strip and raises a model fault on any other. -/
theorem whenActive_cases (s : State) (k : State → State) :
    (s.life = .active ∧ whenActive s k = k s)
      ∨ (s.life ≠ .active ∧ ∃ r, whenActive s k = raiseFault r s) := by
  cases h : s.life <;> simp [whenActive, h] <;> exact ⟨_, rfl⟩

/-- CONFIGURE has its effect on an UNCONFIGURED strip and raises a model fault on any other. -/
theorem whenUnconfigured_cases (s : State) (k : State → State) :
    (s.life = .unconfigured ∧ whenUnconfigured s k = k s)
      ∨ (s.life ≠ .unconfigured ∧ ∃ r, whenUnconfigured s k = raiseFault r s) := by
  cases h : s.life <;> simp [whenUnconfigured, h] <;> exact ⟨_, rfl⟩

/-- An illegal word is answered InvalidArgument or raises a model fault. -/
theorem illegalWord_cases (ope : BitVec 4) (s : State) :
    ((s.life = .unconfigured ∨ s.life = .active) ∧ illegalWord ope s = respond .invalidArgument false ope s)
      ∨ ∃ r, illegalWord ope s = raiseFault r s := by
  cases h : s.life <;> simp [illegalWord, h] <;> exact ⟨_, rfl⟩

/-! ### The five accepting steps -/

/-- The effect of a command on a ready port, LIFE checks included. -/
def accepted : Instr → State → State
  | .configure variant div count clkHz, s =>
      whenUnconfigured s (configureWith Config.wsNs variant div count clkHz)
  | .setPixel index r g b, s => whenActive s (setPixelCmd index r g b)
  | .refresh, s => whenActive s refreshCmd
  | .clear, s => whenActive s clearCmd
  | .release, s => whenActive s releaseCmd

theorem exec_eq_accept (i : Instr) (s : State) : exec i s = accept s (accepted i) := by
  cases i <;> rfl

theorem exec_next {i : Instr} {s t : State} (h : exec i s = .next t) :
    portReady s = true ∧ t = accepted i s :=
  accept_next (exec_eq_accept i s ▸ h)

theorem exec_ready {s : State} (h : portReady s = true) (i : Instr) : exec i s = .next (accepted i s) := by
  rw [exec_eq_accept, accept_ready h]

theorem setPixelCmd_cases (index : BitVec 16) (r g b : Byte) (s : State) :
    (index < s.n ∧ setPixelCmd index r g b s
        = respond .ok false setPixelOpcode { s with buf := bufWrite s.buf index.toNat ⟨r, g, b⟩ })
      ∨ (¬ index < s.n ∧ setPixelCmd index r g b s = respond .invalidArgument false setPixelOpcode s) := by
  by_cases h : index < s.n <;> simp [setPixelCmd, h]

theorem configureChecked_cases (variant : BitVec 4) (div : BitVec 8) (count : BitVec 16)
    (clkHz : BitVec 32) (derived : Derived) (s : State) :
    ((configOk variant.toNat div.toNat count.toNat clkHz.toNat && ticksOk derived) = true
        ∧ configureChecked variant div count clkHz derived s
            = configureStores variant div count clkHz (tickFile derived) s)
      ∨ ((configOk variant.toNat div.toNat count.toNat clkHz.toNat && ticksOk derived) = false
        ∧ configureChecked variant div count clkHz derived s = configureFails s) := by
  unfold configureChecked
  split
  · next h => exact .inl ⟨h, rfl⟩
  · next h => exact .inr ⟨by simpa using h, rfl⟩

theorem frameStartIfIdle_busy {s : State} (h : s.busy = true) : frameStartIfIdle s = s := by
  simp [frameStartIfIdle, h]

theorem frameStartIfIdle_idle {s : State} (h : s.busy = false) : frameStartIfIdle s = frameStart s := by
  simp [frameStartIfIdle, h]

/-! ### Which steps are enabled -/

theorem mem_enabledMoves (timed isolated : Bool) (s : State) (m : Move) :
    m ∈ enabledMoves timed isolated s ↔ moveEnabled timed isolated s m = true := by
  cases m <;> simp [enabledMoves, allMoves]

/-- The step taken is one the state has. -/
theorem chosenMove_enabled {timed isolated : Bool} {s : State} {m : Move}
    (h : chosenMove timed isolated s = some m) : moveEnabled timed isolated s m = true :=
  (mem_enabledMoves ..).1 (List.mem_of_getElem? h)

/-- No step is taken only where there is none. -/
theorem chosenMove_none {timed isolated : Bool} {s : State}
    (h : chosenMove timed isolated s = none) (m : Move) : moveEnabled timed isolated s m = false := by
  unfold chosenMove at h
  rw [List.getElem?_eq_none_iff] at h
  have hl : (enabledMoves timed isolated s).length = 0 := by
    by_contra hne
    exact absurd (Nat.mod_lt s.draws.pick (Nat.pos_of_ne_zero hne)) (by omega)
  by_contra hm
  have : m ∈ enabledMoves timed isolated s := (mem_enabledMoves ..).2 (by simpa using hm)
  rw [List.length_eq_zero_iff.1 hl] at this
  cases this

/-- Where there is exactly one step, it is taken, whatever `pick` is. -/
theorem chosenMove_of_unique {timed isolated : Bool} {s : State} {m : Move}
    (h : enabledMoves timed isolated s = [m]) : chosenMove timed isolated s = some m := by
  simp [chosenMove, h, Nat.mod_one]

/-- Where HOST has a step and `pick` is 0, HOST moves. -/
theorem chosenMove_host {timed isolated : Bool} {s : State}
    (h : moveEnabled timed isolated s .host = true) (hp : s.draws.pick = 0) :
    chosenMove timed isolated s = some .host := by
  simp [chosenMove, enabledMoves, allMoves, h, hp]

/-- An enabled step's own condition holds. -/
theorem moveCondition_of_enabled {timed isolated : Bool} {s : State} {m : Move}
    (h : moveEnabled timed isolated s m = true) : moveCondition timed isolated s m = true := by
  simp only [moveEnabled, Bool.and_eq_true] at h
  exact h.1

/-! ### What a step answers -/

/-- A step that goes on either waits, unchanged, or takes one enabled step and then fresh free values. -/
theorem stepWith_next {timed isolated : Bool} {s t : State} (h : stepWith timed isolated s = .next t) :
    (chosenMove timed isolated s = none ∧ s.fault = none ∧ t = s)
      ∨ ∃ m u, moveEnabled timed isolated s m = true ∧ chosenMove timed isolated s = some m
          ∧ runMove m s = .next u ∧ t = freshDraws u := by
  unfold stepWith at h
  cases hc : chosenMove timed isolated s with
  | none =>
    rw [hc] at h
    refine .inl ⟨rfl, ?_⟩
    simp only [noStep] at h
    split at h
    · cases h
    · next hf => split at h <;> cases h <;> exact ⟨hf, rfl⟩
  | some m =>
    rw [hc] at h
    simp only [thenFresh] at h
    split at h <;> cases h
    next u hu => exact .inr ⟨m, u, chosenMove_enabled hc, rfl, hu, rfl⟩

theorem stepWith_chosen {timed isolated : Bool} {s : State} {m : Move}
    (h : chosenMove timed isolated s = some m) : stepWith timed isolated s = thenFresh (runMove m s) := by
  simp [stepWith, h]

/-- What HOST's step does: it takes the first action off its queue; a word is decoded and executed or is illegal,
a response read takes RESP, a register read changes nothing in the block. -/
theorem hostStep_cases {s u : State} (h : hostStep s = .next u) :
    (∃ w rest i, s.host = .write w :: rest ∧ decode w = some i ∧ exec i { s with host := rest } = .next u)
      ∨ (∃ w rest, s.host = .write w :: rest ∧ decode w = none ∧ portReady s = true
          ∧ u = illegalWord (fieldOp w) { s with host := rest })
      ∨ (∃ rest, s.host = .waitResp :: rest ∧ u = readResponse { s with host := rest })
      ∨ (∃ sel rest, s.host = .read sel :: rest ∧ u = readRegister sel { s with host := rest })
      ∨ (s.host = [] ∧ u = s) := by
  unfold hostStep at h
  split at h
  · next a rest hh =>
    cases a with
    | write w =>
      simp only [hostAct, acceptWord] at h
      cases hd : decode w with
      | some i => exact .inl ⟨w, rest, i, hh, hd, by simpa [hd] using h⟩
      | none =>
        rw [hd] at h
        have := accept_next h
        exact .inr (.inl ⟨w, rest, hh, hd, by simpa [portReady] using this.1, this.2⟩)
    | waitResp => exact .inr (.inr (.inl ⟨rest, hh, by simpa [hostAct] using h.symm⟩))
    | read sel => exact .inr (.inr (.inr (.inl ⟨sel, rest, hh, by simpa [hostAct] using h.symm⟩)))
  · next hh => exact .inr (.inr (.inr (.inr ⟨hh, by simpa using h.symm⟩)))

theorem emitStep_next {s u : State} (h : emitStep s = .next u) :
    ∃ it, s.items[s.fpos.toNat]? = some it ∧ u = emitItem Config.channel it s := by
  unfold emitStep at h
  split at h
  · next it hi => exact ⟨it, hi, by cases h; rfl⟩
  · cases h

/-- Completion clears BUSY and answers only the command whose frame it was. -/
theorem completeStep_cases (s : State) :
    (∃ p, s.pend = some p ∧ frameStarted s = true
        ∧ completeStep s = respond .ok s.lastSf (pendOpcode p.op) { s with busy := false, line := .low })
      ∨ (frameStarted s = false ∧ completeStep s = { s with busy := false, line := .low }) := by
  cases hp : s.pend with
  | none => exact .inr ⟨by simp [frameStarted, hp], by simp [completeStep, hp]⟩
  | some p =>
    by_cases hs : frameStarted s = true
    · exact .inl ⟨p, rfl, hs, by simp [completeStep, hp, hs]⟩
    · exact .inr ⟨by simpa using hs, by simp [completeStep, hp, hs]⟩

theorem timeoutStep_some {s : State} {p : Pending} (h : s.pend = some p) :
    timeoutStep s = respond .transmissionTimeout (p.started && s.lastSf) (pendOpcode p.op) s := by
  simp [timeoutStep, h]

theorem readResponse_some {s : State} {w : Reg32} (h : s.resp = some w) :
    readResponse s = { s with resp := none, seen := s.seen ++ [.resp w] } := by
  simp [readResponse, h]

theorem framePending_iff (s : State) :
    framePending s = true ↔ ∃ p, s.pend = some p ∧ p.op ≠ .release := by
  cases h : s.pend <;> simp [framePending, h]

theorem frameStarted_iff (s : State) :
    frameStarted s = true ↔ ∃ p, s.pend = some p ∧ p.op ≠ .release ∧ p.started = true := by
  cases h : s.pend <;> simp [frameStarted, h]

theorem releasePending_iff (s : State) :
    releasePending s = true ↔ ∃ p, s.pend = some p ∧ p.op = .release := by
  cases h : s.pend <;> simp [releasePending, h]

end Sys2Proof.Machine
end

