-- ==== Sys2Proof/Laws/PerInstr.lean ====
section
/-! SUPPORT. Families of statements made per instruction (LAWS.json). -/

namespace Sys2Proof.Laws.OneRow

/-- The row of spec/30_encoding.md R73 that is the command's own. -/
def ownRow : Instr → CmdWord → Bool
  | .configure _ _ _ _ => selectsConfigure
  | .setPixel _ _ _ _ => selectsSetPixel
  | .refresh => selectsRefresh
  | .clear => selectsClear
  | .release => selectsRelease

/-- The command's word carries its opcode (R72) and selects its own row (R73). -/
def Statement (i : Instr) : Prop := fieldOp (encode i) = i.opcode ∧ ownRow i (encode i) = true

theorem configure (variant : BitVec 4) (div : BitVec 8) (count : BitVec 16) (clkHz : BitVec 32) :
    Statement (.configure variant div count clkHz) := by
  refine ⟨?_, ?_⟩
  · apply BitVec.eq_of_getLsbD_eq
    intro j hj
    simp only [fieldOp, encode, Instr.opcode, BitVec.getLsbD_extractLsb', BitVec.getLsbD_append]
    interval_cases j <;> simp
  · simp only [ownRow, selectsConfigure, rowSelects, encode, beq_iff_eq]
    apply BitVec.eq_of_getLsbD_eq
    intro j hj
    simp only [BitVec.getLsbD_and, BitVec.getLsbD_append]
    interval_cases j <;> simp

theorem setPixel (index : BitVec 16) (r g b : Byte) : Statement (.setPixel index r g b) := by
  refine ⟨?_, ?_⟩
  · apply BitVec.eq_of_getLsbD_eq
    intro j hj
    simp only [fieldOp, encode, Instr.opcode, BitVec.getLsbD_extractLsb', BitVec.getLsbD_append]
    interval_cases j <;> simp
  · simp only [ownRow, selectsSetPixel, rowSelects, encode, beq_iff_eq]
    apply BitVec.eq_of_getLsbD_eq
    intro j hj
    simp only [BitVec.getLsbD_and, BitVec.getLsbD_append]
    interval_cases j <;> simp

theorem refresh : Statement .refresh := ⟨rfl, rfl⟩

theorem clear : Statement .clear := ⟨rfl, rfl⟩

theorem release : Statement .release := ⟨rfl, rfl⟩

end Sys2Proof.Laws.OneRow
end

