-- ==== Sys2Proof/Tests/Slice0.lean ====
section
/-! SUPPORT. The model's own tests. Every expected value is one of spec/95_test_vectors.md (its vector is named) or is
worked out by hand from the rule named; each `witness_` theorem shows a concrete input that meets the premises of the
obligation it names. -/

namespace Sys2Proof.Tests

open Sys2Proof.Machine

/-! ### The assembler notation (spec/30_encoding.md R79): an operand that does not fit is refused -/

theorem test_configure_operands_must_fit :
    (AsmLine.configure 16 1 60 40000000).wellFormed = false
      ∧ (AsmLine.configure 0 256 60 40000000).wellFormed = false
      ∧ (AsmLine.configure 0 1 65536 40000000).wellFormed = false
      ∧ (AsmLine.configure 0 1 60 4294967296).wellFormed = false
      ∧ (AsmLine.configure 15 255 65535 4294967295).wellFormed = true := by decide

theorem test_setpix_operands_must_fit :
    (AsmLine.setpix 65536 0 0 0).wellFormed = false
      ∧ (AsmLine.setpix 0 256 0 0).wellFormed = false
      ∧ (AsmLine.setpix 0 0 256 0).wellFormed = false
      ∧ (AsmLine.setpix 0 0 0 256).wellFormed = false
      ∧ (AsmLine.setrgb 65536 0).wellFormed = false
      ∧ (AsmLine.setrgb 0 0x1000000).wellFormed = false
      ∧ (AsmLine.setpix 65535 255 255 255).wellFormed = true := by decide

theorem test_raw_word_and_select_must_fit :
    (AsmLine.word64 0x10000000000000000).wellFormed = false
      ∧ (AsmLine.read 16).wellFormed = false
      ∧ (AsmLine.word64 0xFFFFFFFFFFFFFFFF).wellFormed = true
      ∧ (AsmLine.read 15).wellFormed = true := by decide

/-- V-C1, V-S1 and R79's expansion of SETRGB. -/
theorem test_assembled_words :
    (AsmLine.configure 0 1 60 40000000).word = some 0x1001003C02625A00
      ∧ (AsmLine.setpix 5 255 0 0).word = some 0x2000000500FF0000
      ∧ (AsmLine.setrgb 5 0xFF0000).word = some 0x2000000500FF0000
      ∧ (AsmLine.setpix 65536 0 0 0).word = none := by decide

/-! ### Words written out field by field from spec/30_encoding.md R71: OP, VAR, DV, IDX, HI, R, G, B -/

/-- VARIANT 1, DIV 3, N = 60, CLK_HZ = 80000000 = 0x04C4B400 (the field CLK is HI, R, G, B as a whole). -/
theorem test_decode_configure :
    decode (0b0001#4 ++ 0b0001#4 ++ 0b00000011#8 ++ 0b0000000000111100#16
        ++ 0b00000100#8 ++ 0b11000100#8 ++ 0b10110100#8 ++ 0b00000000#8)
      = some (.configure 1 3 60 80000000) := by decide

/-- V-S2: the last index of 60 pixels, (1, 2, 3). -/
theorem test_decode_set_pixel :
    decode (0b0010#4 ++ 0b0000#4 ++ 0b00000000#8 ++ 0b0000000000111011#16
        ++ 0b00000000#8 ++ 0b00000001#8 ++ 0b00000010#8 ++ 0b00000011#8)
      = some (.setPixel 59 1 2 3) := by decide

theorem test_decode_refresh : decode (0b0011#4 ++ 0#60) = some .refresh := by decide

theorem test_decode_clear : decode (0b0100#4 ++ 0#60) = some .clear := by decide

theorem test_decode_release : decode (0b0101#4 ++ 0#60) = some .release := by decide

/-- V-D1, V-D3 to V-D9. -/
theorem test_illegal_words :
    decode 0x0000000000000000 = none ∧ decode 0x6000000000000000 = none ∧ decode 0xF000000000000000 = none
      ∧ decode 0x2100000000000000 = none ∧ decode 0x20000000FF000000 = none ∧ decode 0x3000000000000001 = none
      ∧ decode 0x4000000100000000 = none ∧ decode 0x5080000000000000 = none := by decide

/-! ### Small states -/

/-- What a step or an instruction leaves, where it goes on. -/
def after {α : Type} (o : Host.Outcome State Fault Refusal) (f : State → α) : Option α :=
  match o with
  | .next t => some (f t)
  | .fault _ => none
  | .refused _ => none

/-- The tick constants of V-C1: 40 MHz, divisor 1, fewer than 2437 pixels. -/
def ticks40 : TickFile := ⟨14, 54, 54, 14, 2000, 100⟩

/-- An ACTIVE idle strip of VARIANT 0 at 40 MHz with the given pixels, the next grant being `g`. -/
def strip (buf : List Pixel) (g : Reg32) : State :=
  { State.reset with
    life := .active, clkHz := 40000000, div := 1, n := BitVec.ofNat 16 buf.length, ticks := ticks40, buf := buf
    draws := ⟨0, 0, g, 0, 0⟩ }

/-- The one red pixel of V-F2. -/
def red : State := strip [⟨255, 0, 0⟩] 40

/-- The empty strip of V-F1 with its frame in flight, `k` of its two items out. -/
def emptyFlight (k : Reg32) (p : Option Pending) : State :=
  { strip [] 16 with
    busy := true, items := [⟨0, 2000⟩, ⟨0, 2000⟩], flen := 2, fpos := k, grant := 16, reqBytes := 2, pend := p }

/-- The same strip between frames. -/
def emptyIdle (p : Option Pending) : State := { emptyFlight 2 p with busy := false }

/-! ### One step of each command -/

/-- V-C1's clock and divisor, with three pixels (P3). -/
theorem test_configure_derives :
    after (exec (.configure 0 1 3 40000000) State.reset)
        (fun t => ([t.ticks.t0h, t.ticks.t0l, t.ticks.t1h, t.ticks.t1l, t.ticks.trst], t.buf.length, t.life, t.resp))
      = some ([14, 54, 54, 14, 2000], 3, .active, some 0x00000100) := by decide

/-- V-C7, V-C9, V-C10, V-C11. -/
theorem test_configure_fails :
    after (exec (.configure 0 1 60 1000000) State.reset) (fun t => (t.life, t.resp)) = some (.failed, some 0x00000102)
      ∧ after (exec (.configure 0 1 60 0) State.reset) (fun t => t.resp) = some (some 0x00000102)
      ∧ after (exec (.configure 0 0 60 40000000) State.reset) (fun t => t.resp) = some (some 0x00000102)
      ∧ after (exec (.configure 2 1 60 40000000) State.reset) (fun t => t.resp) = some (some 0x00000102) := by decide

/-- V-S2 and V-S3 on a strip of two pixels: the last index is stored, the next one is refused. -/
theorem test_set_pixel :
    after (exec (.setPixel 1 1 2 3) (strip [⟨9, 9, 9⟩, ⟨0, 0, 0⟩] 0)) (fun t => (t.buf, t.resp))
        = some ([⟨9, 9, 9⟩, ⟨1, 2, 3⟩], some 0x00000200)
      ∧ after (exec (.setPixel 2 1 2 3) (strip [⟨9, 9, 9⟩, ⟨0, 0, 0⟩] 0)) (fun t => (t.buf, t.resp))
        = some ([⟨9, 9, 9⟩, ⟨0, 0, 0⟩], some 0x00000201) := by decide

/-- V-D2 and R224: before CONFIGURE the word raises a model fault, a next state without a response. -/
theorem test_set_pixel_before_configure :
    after (exec (.setPixel 0 1 2 3) State.reset) (fun t => (t.fault, t.resp))
      = some (some .useBeforeConfigure, none) := by decide

/-- V-F2 and V-F4: the items of one red pixel in the order (r, g, b), whole and one slot short. -/
theorem test_refresh_frame :
    (frameStartIn .rgb red).items
        = [⟨0, 2000⟩] ++ List.replicate 8 ⟨54, 14⟩ ++ List.replicate 16 ⟨14, 54⟩ ++ [⟨0, 2000⟩]
      ∧ (frameStartIn .rgb red).lastSf = false
      ∧ (frameStartIn .rgb { red with draws := ⟨0, 0, 25, 0, 0⟩ }).items
        = [⟨0, 2000⟩] ++ List.replicate 8 ⟨54, 14⟩ ++ List.replicate 16 ⟨14, 54⟩
      ∧ (frameStartIn .rgb { red with draws := ⟨0, 0, 25, 0, 0⟩ }).lastSf = true := by decide

/-- V-E7: the order (g, r, b), and V-E3: most significant bit first. -/
theorem test_component_and_bit_order :
    pixelItems .grb ticks40 ⟨0x12, 0x34, 0x56⟩
        = byteItems ticks40 0x34 ++ byteItems ticks40 0x12 ++ byteItems ticks40 0x56
      ∧ byteItems ticks40 0xA5
        = [⟨54, 14⟩, ⟨14, 54⟩, ⟨54, 14⟩, ⟨14, 54⟩, ⟨14, 54⟩, ⟨54, 14⟩, ⟨14, 54⟩, ⟨54, 14⟩] := by decide

/-- R201: CLEAR zeroes at once and waits while a frame is in flight. -/
theorem test_clear_waits :
    after (exec .clear { strip [⟨1, 2, 3⟩] 0 with busy := true }) (fun t => (t.buf, t.pend, t.resp))
      = some ([⟨0, 0, 0⟩], some ⟨.clear, false⟩, none) := by decide

/-- V-R6: an idle CLEAR starts its frame in the accepting step. -/
theorem test_clear_starts :
    after (exec .clear (strip [⟨1, 2, 3⟩, ⟨255, 255, 255⟩] 64)) (fun t => (t.buf, t.snap, t.flen, t.busy))
      = some ([⟨0, 0, 0⟩, ⟨0, 0, 0⟩], [⟨0, 0, 0⟩, ⟨0, 0, 0⟩], 50, true) := by decide

/-- V-R8 (and R202's LAST_SF <- 0), and V-D11: after it every word faults. -/
theorem test_release :
    after (exec .release { red with lastSf := true }) (fun t => (t.life, t.buf, t.lastSf, t.resp, readBank t 0))
        = some (.released, [], false, some 0x00000500, 0x00000023)
      ∧ after (acceptWord 0 { State.reset with life := .released }) (fun t => t.fault)
        = some (some .useAfterRelease) := by decide

/-- V-R9: a RELEASE accepted while a frame is in flight waits. -/
theorem test_release_waits :
    after (exec .release { red with busy := true }) (fun t => (t.life, t.pend, t.resp))
      = some (.active, some ⟨.release, false⟩, none) := by decide

/-! ### The numbers of CONFIGURE and the later steps of a frame -/

/-- V-C3, V-C4, V-C5, V-C8 (R110). -/
theorem test_derived_ticks :
    bitTicks 350 80000000 1 = 28 ∧ bitTicks 1360 80000000 1 = 109
      ∧ bitTicks 350 10000000 1 = 4 ∧ bitTicks 1360 10000000 1 = 14
      ∧ resetTicks Config.resetNs 10000000 1 = 500 ∧ resetTicks Config.resetNs 80000000 3 = 1334
      ∧ ticksOk (derive Config.ns0 1000000000 1 60) = false := by decide

/-- V-T1, V-T4 to V-T7. -/
theorem test_timeouts :
    timeoutMs Config.ns0 0 = 100 ∧ timeoutMs Config.ns0 2436 = 100 ∧ timeoutMs Config.ns0 2437 = 101
      ∧ timeoutMs Config.ns0 10000 = 411 ∧ timeoutMs Config.ns0 65535 = 2690
      ∧ deadline red = 4000000 := by decide

/-- V-R3 and V-R4: a started frame's timeout reports the frame's shortfall and the frame goes on; V-R5: one that had
not started reports none. -/
theorem test_timeout_answers :
    (timeoutStep (emptyFlight 1 (some ⟨.refresh, true⟩))).resp = some 0x00000303
      ∧ (timeoutStep (emptyFlight 1 (some ⟨.refresh, true⟩))).busy = true
      ∧ (timeoutStep { emptyFlight 1 (some ⟨.refresh, true⟩) with lastSf := true }).resp = some 0x00000313
      ∧ (timeoutStep { emptyFlight 1 (some ⟨.refresh, false⟩) with lastSf := true }).resp = some 0x00000303 := by decide

/-- V-R1, V-R2 and V-R6's answer. -/
theorem test_completion_answers :
    (completeStep (emptyFlight 2 (some ⟨.refresh, true⟩))).resp = some 0x00000300
      ∧ (completeStep { emptyFlight 2 (some ⟨.refresh, true⟩) with lastSf := true }).resp = some 0x00000310
      ∧ (completeStep (emptyFlight 2 (some ⟨.clear, true⟩))).resp = some 0x00000400
      ∧ (completeStep (emptyFlight 2 (some ⟨.refresh, false⟩))).resp = none := by decide

/-- The read bank of V-C1 for one pixel. -/
theorem test_read_bank :
    readBank red 0x1 = 14 ∧ readBank red 0x2 = 54 ∧ readBank red 0x5 = 2000 ∧ readBank red 0x6 = 100
      ∧ readBank red 0x7 = 1 ∧ readBank red 0x9 = 40000000 := by decide

/-- STATUS of an idle strip, with a response unread, and with a REFRESH pending behind its frame in flight. -/
theorem test_status :
    readBank (emptyIdle none) 0x0 = 0x00000001
      ∧ readBank { emptyIdle none with resp := some 0x00000100 } 0x0 = 0x00000021
      ∧ readBank (emptyFlight 0 (some ⟨.refresh, true⟩)) 0x0 = 0x00000012 := by decide

/-- A word in HOST's hand is the next step's command, from reset: CONFIGURE has its effect. -/
theorem test_first_step_configures :
    after (step (State.reset.withFetchWord 64 0x1001003C02625A00)) (fun t => (t.life, t.n, t.resp, t.host))
      = some (.active, 60, some 0x00000100, []) := by decide

/-! ### Witnesses: the premises of each obligation are met together by a concrete input -/

theorem witness_EncodeOfDecodeIsIdentity : decode 0x3000000000000000 = some .refresh := by decide

theorem witness_IllegalWords :
    decode 0x2100000000000000 = none ∧ portReady State.reset = true ∧ portReady red = true
      ∧ portReady { State.reset with life := .released } = true
      ∧ portReady { State.reset with life := .failed } = true := by decide

theorem witness_AssemblerWords :
    (AsmLine.configure 1 3 60 80000000).wellFormed = true ∧ (AsmLine.setpix 59 1 2 3).wellFormed = true
      ∧ (18446744073709551615 : Nat) < 2 ^ 64 ∧ (AsmLine.read 16).wellFormed = false := by decide

/-- A state in which HOST holds one word. -/
def holding (w : CmdWord) (s : State) : State := { s with host := [.write w] }

/-- Both ways in which HOST moves: it is chosen among several (a block reset is due), and it is the only one. -/
theorem witness_StepRunsDecodedInstruction :
    decode 0x4000000000000000 = some .clear
      ∧ chosenMove Config.timed Config.isolated (holding 0x4000000000000000 { red with resets := 1 }) = some .host
      ∧ portReady (holding 0x4000000000000000 red) = true ∧ red.busy = false ∧ red.resets = 0
      ∧ (0x4000000000000000 : Nat) < 2 ^ 64 := by decide

theorem witness_AcceptChecksInOrder :
    decode 0x3000000000000000 = some .refresh ∧ decode 0x1001003C02625A00 = some (.configure 0 1 60 40000000)
      ∧ portReady State.reset = true ∧ portReady red = true ∧ red.life = .active
      ∧ portReady { State.reset with life := .released } = true
      ∧ portReady { State.reset with life := .failed } = true := by decide

/-- The third clause's step: the frame in flight goes on while HOST's word waits. -/
theorem witness_PortNotReadyTakesNoWord :
    (emptyFlight 0 (some ⟨.release, false⟩)).pend ≠ none ∧ ({ red with resp := some 0 } : State).resp ≠ none
      ∧ ({ red with fault := some .reconfigure } : State).fault ≠ none
      ∧ ∃ t, step (holding 0x4000000000000000 (emptyFlight 0 (some ⟨.release, false⟩))) = .next t :=
  ⟨by decide, by decide, by decide, _, rfl⟩

theorem witness_WriteBeforeReadIsStuck :
    (holding 0 { red with resp := some 0x00000200 }).resp ≠ none ∧ red.pend = none ∧ red.fault = none
      ∧ red.busy = false ∧ red.resets = 0 := by decide

theorem witness_FaultedStateHasNoAgentStep :
    ({ red with fault := some .reconfigure } : State).fault = some .reconfigure ∧ red.resets = 0
      ∧ 0 < ({ red with fault := some .reconfigure, resets := 1 } : State).resets := by decide

/-- FAULT stays through a block reset, and each of its four reasons is set by a word. -/
theorem witness_FaultIsSetOnlyByAWordAndNeverCleared :
    (∃ t, step { red with fault := some .reconfigure, resets := 1 } = .next t)
      ∧ (∃ t, step (holding 0x3000000000000000 State.reset) = .next t ∧ t.fault = some .useBeforeConfigure)
      ∧ (∃ t, step (holding 0x1001003C02625A00 red) = .next t ∧ t.fault = some .reconfigure)
      ∧ (∃ t, step (holding 0 { State.reset with life := .released }) = .next t ∧ t.fault = some .useAfterRelease)
      ∧ ∃ t, step (holding 0 { State.reset with life := .failed }) = .next t ∧ t.fault = some .useAfterInitFailure :=
  ⟨⟨_, rfl⟩, ⟨_, rfl, rfl⟩, ⟨_, rfl, rfl⟩, ⟨_, rfl, rfl⟩, ⟨_, rfl, rfl⟩⟩

/-- A step that is enabled, a step that goes on, and a state that only waits. -/
theorem witness_EveryEnabledStepCanBeTaken :
    moveEnabled Config.timed Config.isolated (emptyFlight 0 none) .emit = true
      ∧ (∃ t, step (emptyFlight 0 none) = .next t) ∧ step State.reset = .next State.reset :=
  ⟨by decide, ⟨_, rfl⟩, rfl⟩

/-- V-C6's clock and divisor, the slowest that pass, at the largest N. -/
theorem checks_v_c6 : ConfigureChecks 0 1 65535 2000000 := by
  refine ⟨⟨.inl rfl, ?_, ?_, ?_⟩, ⟨⟨?_, ?_⟩, ⟨?_, ?_⟩, ⟨?_, ?_⟩, ⟨?_, ?_⟩, ?_, ?_⟩, ⟨?_, ?_⟩, ?_⟩ <;> decide

theorem witness_ConfigureSucceeds :
    portReady State.reset = true ∧ State.reset.life = .unconfigured
      ∧ ConfigureChecks (0 : BitVec 4).toNat (1 : BitVec 8).toNat (65535 : BitVec 16).toNat (2000000 : BitVec 32).toNat :=
  ⟨by decide, by decide, checks_v_c6⟩

theorem witness_VariantZeroConstants :
    State.reset.life = .unconfigured
      ∧ ∃ t, exec (.configure 0 1 3 40000000) State.reset = .next t ∧ t.life = .active :=
  ⟨rfl, _, rfl, by decide⟩

/-- V-C10: check 2; and a FAILED strip with its port ready. -/
theorem witness_ConfigureFailsOnAnyCheck :
    portReady State.reset = true ∧ State.reset.life = .unconfigured
      ∧ ¬ ConfigureChecks (0 : BitVec 4).toNat (0 : BitVec 8).toNat (60 : BitVec 16).toNat (40000000 : BitVec 32).toNat
      ∧ portReady { State.reset with life := .failed } = true :=
  ⟨by decide, by decide, fun h => absurd h.1.2.1.1 (by decide), by decide⟩

theorem witness_RoundingBounds : 1 ≤ 1 ∧ bitTicks 350 10000000 1 = 4 := by decide

/-- A CONFIGURE that stores, one that fails and one that faults. -/
theorem witness_ConfigureFrame :
    (∃ t, exec (.configure 0 1 3 40000000) State.reset = .next t ∧ t.life = .active)
      ∧ (∃ t, exec (.configure 0 0 3 40000000) State.reset = .next t ∧ t.life = .failed)
      ∧ ∃ t, exec (.configure 0 1 3 40000000) red = .next t ∧ t.life = red.life :=
  ⟨⟨_, rfl, by decide⟩, ⟨_, rfl, by decide⟩, ⟨_, rfl, rfl⟩⟩

/-- The last legal index. -/
theorem witness_SetPixelStoresOnePixel :
    portReady red = true ∧ red.life = .active ∧ Memory.wf red.n red.buf ∧ (0 : BitVec 16).toNat < red.n.toNat := by
  decide

/-- The first illegal index. -/
theorem witness_SetPixelIndexError :
    portReady red = true ∧ red.life = .active ∧ red.n.toNat ≤ (1 : BitVec 16).toNat := by decide

/-- A word that stores, one whose index is too large, one that faults. -/
theorem witness_SetPixelFrame :
    Memory.wf red.n red.buf ∧ Memory.wf State.reset.n State.reset.buf
      ∧ (∃ t, exec (.setPixel 0 1 2 3) red = .next t) ∧ (∃ t, exec (.setPixel 1 1 2 3) red = .next t)
      ∧ ∃ t, exec (.setPixel 0 1 2 3) State.reset = .next t :=
  ⟨by decide, by decide, ⟨_, rfl⟩, ⟨_, rfl⟩, ⟨_, rfl⟩⟩

theorem witness_PixelByteSpace :
    red.buf[0]? = some ⟨255, 0, 0⟩ ∧ memRead red.buf 2 = some 0 ∧ memRead red.buf 3 = none := by decide

theorem witness_RefreshStartsAFrame : portReady red = true ∧ red.life = .active ∧ red.busy = false := by decide

theorem witness_RefreshWaitsForTheFrameInFlight :
    portReady (emptyFlight 0 none) = true ∧ (emptyFlight 0 none).life = .active
      ∧ (emptyFlight 0 none).busy = true := by decide

theorem witness_ClearZeroesThenSends :
    portReady red = true ∧ red.life = .active ∧ red.busy = false
      ∧ portReady (emptyFlight 0 none) = true ∧ (emptyFlight 0 none).life = .active
      ∧ (emptyFlight 0 none).busy = true := by decide

theorem witness_RefreshAndClearFrame :
    Memory.wf red.n red.buf ∧ (∃ t, exec .refresh red = .next t) ∧ (∃ t, exec .clear red = .next t)
      ∧ (∃ t, exec .clear (emptyFlight 0 none) = .next t) ∧ ∃ t, exec .refresh State.reset = .next t :=
  ⟨by decide, ⟨_, rfl⟩, ⟨_, rfl⟩, ⟨_, rfl⟩, ⟨_, rfl⟩⟩

theorem witness_WaitingFrameStarts :
    (emptyIdle (some ⟨.clear, false⟩)).fault = none
      ∧ moveEnabled Config.timed Config.isolated (emptyIdle (some ⟨.clear, false⟩)) .start = true := by decide

/-- The last bit of the last component. -/
theorem witness_FrameItemPositions :
    red.buf[0]? = some ⟨255, 0, 0⟩ ∧ (wireComponents .grb)[2]? = some .b ∧ 0 < 8 ∧ 7 < 8 := by decide

theorem witness_ByteStreamTranslatesToTheFrame :
    red.buf[2 / 3]? = some ⟨255, 0, 0⟩ ∧ (wireComponents .grb)[2 % 3]? = some .b := by decide

/-- Memory in its form, a grant that is short by one slot and the reference grant. -/
theorem witness_GrantDecidesTheEmittedPrefix :
    Memory.wf red.n red.buf ∧ red.draws.grant.toNat = referenceGrant red.n.toNat
      ∧ (strip [⟨255, 0, 0⟩] 25).draws.grant.toNat < 24 * (strip [⟨255, 0, 0⟩] 25).n.toNat + 2 := by decide

theorem witness_EmptyStripSendsTwoResets :
    portReady (emptyIdle none) = true ∧ (emptyIdle none).life = .active ∧ (emptyIdle none).busy = false
      ∧ (emptyIdle none).n = 0 ∧ (emptyIdle none).buf = [] ∧ (emptyIdle none).draws.grant.toNat = 16 := by decide

/-- The configuration of V-C1 with no pixel. -/
theorem configured_empty : ConfigureChecks 0 1 0 40000000 ∧ HoldsDerived 0 1 0 40000000 ticks40 := by
  constructor
  · refine ⟨⟨.inl rfl, ?_, ?_, ?_⟩, ⟨⟨?_, ?_⟩, ⟨?_, ?_⟩, ⟨?_, ?_⟩, ⟨?_, ?_⟩, ?_, ?_⟩, ⟨?_, ?_⟩, ?_⟩ <;> decide
  · constructor <;> decide

theorem witness_FrameDuration : Configured (emptyIdle none) ∧ (emptyIdle none).variant = 0 :=
  ⟨⟨configured_empty.1, configured_empty.2⟩, rfl⟩

theorem witness_WaveformOfAnEvent : (1 : Duration) ≠ 0 ∧ 1 ≤ 1 ∧ (Level.low, 1) ∈ waveform (.gap 0 1) := by decide

/-- The empty strip meets the invariant at every position of its frame, whatever is pending on it. -/
theorem inv_emptyFlight (k : Reg32) (p : Option Pending) (hk : k ≤ 2) : Inv (emptyFlight k p) where
  memory := rfl
  line := rfl
  framed := ⟨.inl rfl, rfl, rfl, hk, fun _ => ⟨rfl, rfl, rfl⟩⟩
  configured _ := ⟨configured_empty.1, configured_empty.2⟩
  unconfigured h := absurd rfl h
  started _ := rfl
  answered _ := rfl

/-- It also does between frames, where no started command is pending. -/
theorem inv_emptyIdle (p : Option Pending) (hp : frameStarted (emptyIdle p) = false) (r : Option Reg32)
    (hr : p.isSome = true → r = none) : Inv { emptyIdle p with resp := r } where
  memory := rfl
  line := rfl
  framed := ⟨.inl rfl, rfl, rfl, (by decide : (2 : Reg32) ≤ 2), fun h => nomatch h⟩
  configured _ := ⟨configured_empty.1, configured_empty.2⟩
  unconfigured h := absurd rfl h
  started h := absurd h (by simpa [frameStarted] using hp)
  answered := hr

theorem witness_EmissionStep :
    Inv (emptyFlight 1 none) ∧ (emptyFlight 1 none).fault = none
      ∧ moveEnabled Config.timed Config.isolated (emptyFlight 1 none) .emit = true :=
  ⟨inv_emptyFlight 1 none (by decide), rfl, by decide⟩

/-- A step that emits the frame's last item. -/
theorem witness_OnlyFrameItemsAndGapsReachTheWire :
    ∃ t, step (emptyFlight 1 none) = .next t ∧ t.fpos = 2 := ⟨_, rfl, by decide⟩

theorem witness_CompletionStep :
    (emptyFlight 2 (some ⟨.refresh, true⟩)).fault = none
      ∧ (emptyFlight 2 (some ⟨.clear, true⟩)).pend = some ⟨.clear, true⟩
      ∧ (emptyFlight 2 (some ⟨.release, false⟩)).pend = some ⟨.release, false⟩ := by decide

/-- The completion step of a REFRESH, whether or not TIMER has a step beside it. -/
theorem ok_step (timed isolated : Bool) :
    ∃ t, stepWith timed isolated (emptyFlight 2 (some ⟨.refresh, true⟩)) = .next t
      ∧ t.resp = some (responseWord .ok false 3) := by
  cases timed <;> cases isolated <;> exact ⟨_, rfl, rfl⟩

theorem witness_OkResponseMeansTheFrameIsOut :
    Inv (emptyFlight 2 (some ⟨.refresh, true⟩)) ∧ (emptyFlight 2 (some ⟨.refresh, true⟩)).resp = none
      ∧ ∃ t, step (emptyFlight 2 (some ⟨.refresh, true⟩)) = .next t ∧ t.resp = some (responseWord .ok false 3) :=
  ⟨inv_emptyFlight 2 _ (by decide), rfl, ok_step _ _⟩

theorem witness_TimeoutStep :
    (emptyFlight 1 (some ⟨.refresh, true⟩)).fault = none
      ∧ (emptyFlight 1 (some ⟨.clear, false⟩)).pend = some ⟨.clear, false⟩ := by decide

/-- An emission while a RELEASE waits, one while a REFRESH is pending, and the acceptance of a REFRESH. -/
theorem timer_step (timed isolated : Bool) :
    ∃ t, stepWith timed isolated (emptyFlight 0 (some ⟨.refresh, true⟩)) = .next t ∧ framePending t = true := by
  cases timed <;> cases isolated <;> exact ⟨_, rfl, rfl⟩

theorem witness_TimerCountsTheWire :
    Inv (emptyFlight 0 (some ⟨.refresh, true⟩)) ∧ framePending (emptyFlight 0 (some ⟨.refresh, true⟩)) = true
      ∧ (∃ t, step (emptyFlight 0 (some ⟨.refresh, true⟩)) = .next t ∧ framePending t = true)
      ∧ Inv (emptyFlight 0 none) ∧ framePending (emptyFlight 0 none) = false
      ∧ ∃ t, step (emptyFlight 0 none) = .next t :=
  ⟨inv_emptyFlight 0 _ (by decide), rfl, timer_step _ _, inv_emptyFlight 0 _ (by decide), rfl, _, rfl⟩

/-- A frame left running by a timeout, and one whose command is pending. -/
theorem witness_FrameInFlightAlwaysCompletes :
    (Inv (emptyFlight 0 none) ∧ (emptyFlight 0 none).fault = none ∧ (emptyFlight 0 none).busy = true
        ∧ (emptyFlight 0 none).host = [] ∧ (emptyFlight 0 none).resets = 0 ∧ (emptyFlight 0 none).pend = none)
      ∧ Inv (emptyFlight 1 (some ⟨.clear, true⟩)) ∧ frameStarted (emptyFlight 1 (some ⟨.clear, true⟩)) = true :=
  ⟨⟨inv_emptyFlight 0 _ (by decide), rfl, rfl, rfl, rfl, rfl⟩, inv_emptyFlight 1 _ (by decide), rfl⟩

theorem witness_FrameInFlightIgnoresTheBuffer :
    (emptyFlight 0 none).busy = true ∧ ∃ t, step (emptyFlight 0 none) = .next t := ⟨rfl, _, rfl⟩

theorem witness_ReleaseFreesOrWaits :
    portReady red = true ∧ red.life = .active ∧ red.busy = false ∧ portReady (emptyFlight 0 none) = true
      ∧ (emptyFlight 0 none).life = .active ∧ (emptyFlight 0 none).busy = true := by decide

theorem witness_WaitingReleaseRunsWhenIdle :
    (emptyIdle (some ⟨.release, false⟩)).fault = none
      ∧ (emptyIdle (some ⟨.release, false⟩)).pend = some ⟨.release, false⟩ := by decide

theorem witness_ReleaseFrame :
    (∃ t, exec .release red = .next t) ∧ (∃ t, exec .release (emptyFlight 0 none) = .next t)
      ∧ ∃ t, exec .release State.reset = .next t := ⟨⟨_, rfl⟩, ⟨_, rfl⟩, ⟨_, rfl⟩⟩

/-- A released strip with a block reset still to come. -/
def gone : State := { State.reset with life := .released, resets := 1 }

theorem inv_gone : Inv gone where
  memory := rfl
  line := rfl
  framed := ⟨.inl rfl, rfl, rfl, (by decide : (0 : Reg32) ≤ 0), fun h => nomatch h⟩
  configured h := nomatch h
  unconfigured _ := ⟨⟨rfl, rfl, rfl, rfl⟩, rfl, ⟨rfl, rfl, rfl, rfl, rfl, rfl, rfl⟩, rfl, rfl⟩
  started h := nomatch h
  answered _ := rfl

theorem witness_ReleasedIsFinal :
    Inv gone ∧ gone.life = .released ∧ portReady gone = true ∧ ∃ t, step gone = .next t ∧ t.life = .unconfigured :=
  ⟨inv_gone, rfl, by decide, _, rfl, rfl⟩

theorem witness_ResponseReadConsumes :
    ({ red with host := [.waitResp], resp := some 0x00000200 } : State).host = .waitResp :: []
      ∧ ({ red with host := [.waitResp], resp := some 0x00000200 } : State).resp = some 0x00000200
      ∧ red.fault = none := by decide

theorem witness_RegisterReadHasNoSideEffect :
    ({ emptyFlight 1 (some ⟨.refresh, true⟩) with host := [.read 0] } : State).host = .read 0 :: []
      ∧ (emptyFlight 1 (some ⟨.refresh, true⟩)).fault = none := by decide

theorem witness_StatusRegisterFields : Inv (emptyFlight 0 none) ∧ (emptyFlight 0 none).busy = true :=
  ⟨inv_emptyFlight 0 _ (by decide), rfl⟩

theorem witness_ReadBankMap : red.life = .active ∧ State.reset.life ≠ .active ∧ (0xF : BitVec 4) ≠ 0 := by decide

/-- A reset that falls in the middle of a frame. -/
theorem witness_BlockResetTakesEveryElement :
    0 < ({ emptyFlight 1 (some ⟨.refresh, true⟩) with resets := 1 } : State).resets := by decide

theorem witness_StepKeepsTheInvariant :
    Inv (emptyFlight 1 none) ∧ ∃ t, step (emptyFlight 1 none) = .next t :=
  ⟨inv_emptyFlight 1 _ (by decide), _, rfl⟩

theorem witness_FramePositionNeverWraps : Inv (emptyFlight 1 none) ∧ (emptyFlight 1 none).fpos < (emptyFlight 1 none).flen :=
  ⟨inv_emptyFlight 1 _ (by decide), by decide⟩

/-- A step that keeps the strip, one that releases it, one that resets it. -/
theorem witness_TickConstantsNeverChange :
    red.life = .active ∧ (∃ t, step (holding 0x2000000000010203 red) = .next t ∧ t.life = .active)
      ∧ (∃ t, step (holding 0x5000000000000000 red) = .next t ∧ t.life = .released)
      ∧ ∃ t, step { red with resets := 1 } = .next t ∧ t.life = .unconfigured :=
  ⟨rfl, ⟨_, rfl, rfl⟩, ⟨_, rfl, rfl⟩, ⟨_, rfl, rfl⟩⟩

theorem witness_LifeTransitions :
    Inv (emptyIdle (some ⟨.release, false⟩))
      ∧ ∃ t, step (emptyIdle (some ⟨.release, false⟩)) = .next t ∧ t.life = .released :=
  ⟨inv_emptyIdle _ rfl none (fun _ => rfl), _, rfl, rfl⟩

/-- A block reset empties the buffer of a strip of one pixel that meets the invariant. -/
theorem witness_WhoWritesTheBuffer :
    Inv { strip [⟨255, 0, 0⟩] 40 with resets := 1, items := [], flen := 0 }
      ∧ ∃ t, step { strip [⟨255, 0, 0⟩] 40 with resets := 1, items := [], flen := 0 } = .next t
        ∧ t.buf ≠ (strip [⟨255, 0, 0⟩] 40).buf := by
  refine ⟨⟨rfl, rfl, ⟨.inr rfl, rfl, rfl, (by decide : (0 : Reg32) ≤ 0), fun h => nomatch h⟩, fun _ => ⟨?_, ?_⟩,
    fun h => absurd rfl h, (fun h => nomatch h), (fun h => nomatch h)⟩, _, rfl, by decide⟩
  · refine ⟨⟨.inl rfl, ?_, ?_, ?_⟩, ⟨⟨?_, ?_⟩, ⟨?_, ?_⟩, ⟨?_, ?_⟩, ⟨?_, ?_⟩, ?_, ?_⟩, ⟨?_, ?_⟩, ?_⟩ <;> decide
  · constructor <;> decide

/-- HOST reads the response of a finished frame. -/
theorem witness_ResponseIsNeverLost :
    Inv { emptyIdle none with resp := some 0x00000300 }
      ∧ ∃ t, step { emptyIdle none with resp := some 0x00000300 } = .next t :=
  ⟨inv_emptyIdle none rfl _ (fun h => nomatch h), _, rfl⟩

/-- TIMER's step while an emission is enabled too; its deadline of 4000000 ticks has come. -/
def late : State :=
  { emptyFlight 1 (some ⟨.refresh, true⟩) with elapsed := 4000000, draws := ⟨0, 1, 16, 0, 0⟩ }

theorem timeout_step (timed isolated : Bool) :
    ∃ t, stepWith timed isolated late = .next t ∧ t.resp = some (responseWord .transmissionTimeout false 3) := by
  cases timed <;> cases isolated <;> exact ⟨_, rfl, rfl⟩

theorem witness_TimeoutAppearsOnlyFromTheTimer :
    Inv late ∧ late.resp = none
      ∧ ∃ t, step late = .next t ∧ t.resp = some (responseWord .transmissionTimeout false 3) :=
  ⟨⟨rfl, rfl, ⟨.inl rfl, rfl, rfl, (by decide : (1 : Reg32) ≤ 2), fun _ => ⟨rfl, rfl, rfl⟩⟩,
    fun _ => ⟨configured_empty.1, configured_empty.2⟩, fun h => absurd rfl h, fun _ => rfl, fun _ => rfl⟩, rfl,
    timeout_step _ _⟩

end Sys2Proof.Tests
end

section
/-! PROOFS. The pixel byte space (spec/20_memory.md R50, R51; spec/00_scope.md R9): what a byte read returns, and
what it returns after a byte write. -/

namespace Sys2Proof.Machine

/-- The three byte offsets of a pixel name three different components (R51). -/
theorem storageComponent_inj {j k : Nat} (hj : j < 3) (hk : k < 3) :
    storageComponent j = storageComponent k ↔ j = k := by
  interval_cases j <;> interval_cases k <;> decide

/-- Byte 3i + k is component k of pixel i (R51). -/
theorem memRead_of_getElem? {buf : List Pixel} {i k : Nat} {p : Pixel} (h : buf[i]? = some p) (hk : k < 3) :
    memRead buf (3 * i + k) = some (p.component (storageComponent k)) := by
  have hdiv : (3 * i + k) / 3 = i := by omega
  have hmod : (3 * i + k) % 3 = k := by omega
  rw [memRead, hdiv, hmod, h, Option.map_some]

/-- The byte space ends at 3N (R50; log entry 13). -/
theorem memRead_eq_none_iff (buf : List Pixel) (a : Nat) : memRead buf a = none ↔ 3 * buf.length ≤ a := by
  rw [memRead, Option.map_eq_none_iff, List.getElem?_eq_none_iff]
  omega

/-- A byte that exists reads back as written. -/
theorem memRead_memWrite_same {buf : List Pixel} {a : Nat} (h : a < 3 * buf.length) (v : Byte) :
    memRead (memWrite buf a v) a = some v := by
  have hpixel : a / 3 < buf.length := by omega
  simp [memRead, memWrite, hpixel, component_setComponent]

/-- A byte write keeps every other byte, those of the same pixel included: their offsets name other components. -/
theorem memRead_memWrite_of_ne {a c : Nat} (h : c ≠ a) (buf : List Pixel) (v : Byte) :
    memRead (memWrite buf a v) c = memRead buf c := by
  by_cases hpixel : a / 3 = c / 3
  · have hoffset : storageComponent (a % 3) ≠ storageComponent (c % 3) := by
      rw [Ne, storageComponent_inj (Nat.mod_lt a three_pos) (Nat.mod_lt c three_pos)]
      omega
    simp [memRead, memWrite, hpixel, Function.comp_def, component_setComponent, hoffset]
  · simp [memRead, memWrite, hpixel]

/-- An address at or above 3N names no byte, so a write there changes nothing (log entry 13). -/
theorem memWrite_of_length_le {buf : List Pixel} {a : Nat} (h : 3 * buf.length ≤ a) (v : Byte) :
    memWrite buf a v = buf :=
  List.modify_eq_self (by omega)

/-- A byte write changes the byte it names and no other (spec/00_scope.md R9). -/
theorem memRead_memWrite (buf : List Pixel) (a c : Nat) (v : Byte) :
    memRead (memWrite buf a v) c = if c = a ∧ a < 3 * buf.length then some v else memRead buf c := by
  split
  · next h =>
    obtain ⟨rfl, hlt⟩ := h
    exact memRead_memWrite_same hlt v
  · next h =>
    by_cases hc : c = a
    · rw [memWrite_of_length_le (by omega)]
    · exact memRead_memWrite_of_ne hc buf v

/-- Settles O22: the read of an existing byte, the end of the byte space, and the read after a write. -/
theorem pixelByteSpace : Obligations.PixelByteSpace := by
  unfold Obligations.PixelByteSpace
  intro buf
  refine ⟨fun i p h => ⟨?_, ?_, ?_⟩, memRead_eq_none_iff buf, memRead_memWrite buf⟩
  · exact memRead_of_getElem? (k := 0) h (by decide)
  · exact memRead_of_getElem? (k := 1) h (by decide)
  · exact memRead_of_getElem? (k := 2) h (by decide)

end Sys2Proof.Machine
end

section
/-! PROOFS. What a step can do, said once: every step that goes on waits or has one of the effects listed in
`StepEffect`, each with the condition that enabled it. -/

namespace Sys2Proof.Machine

/-! ### The commands -/

theorem frameStartIfIdle_cases (s : State) : frameStartIfIdle s = s ∨ frameStartIfIdle s = frameStart s := by
  cases hbusy : s.busy with
  | true => exact .inl (frameStartIfIdle_busy hbusy)
  | false => exact .inr (frameStartIfIdle_idle hbusy)

/-- REFRESH waits, or its frame starts at once. -/
theorem refreshCmd_cases (s : State) :
    refreshCmd s = startTimer (startPending .refresh s)
      ∨ refreshCmd s = frameStart (startTimer (startPending .refresh s)) :=
  frameStartIfIdle_cases _

/-- CLEAR waits, or its frame starts at once, on a zeroed buffer. -/
theorem clearCmd_cases (s : State) :
    clearCmd s = startTimer (startPending .clear (zeroBuffer s))
      ∨ clearCmd s = frameStart (startTimer (startPending .clear (zeroBuffer s))) :=
  frameStartIfIdle_cases _

theorem releaseCmd_busy {s : State} (h : s.busy = true) : releaseCmd s = startPending .release s := by
  simp [releaseCmd, h]

theorem releaseCmd_idle {s : State} (h : s.busy = false) :
    releaseCmd s = releaseNow (startPending .release s) := by
  simp [releaseCmd, h]

/-- CONFIGURE stores what it derives where R101's checks pass, and fails where they do not. -/
theorem configureWith_cases (variant : BitVec 4) (div : BitVec 8) (count : BitVec 16) (clkHz : BitVec 32)
    (s : State) :
    (ConfigureChecks variant.toNat div.toNat count.toNat clkHz.toNat
        ∧ configureWith Config.wsNs variant div count clkHz s
          = configureStores variant div count clkHz
              (tickFile (derive (nsOf Config.wsNs variant.toNat) clkHz.toNat div.toNat count.toNat)) s)
      ∨ (¬ ConfigureChecks variant.toNat div.toNat count.toNat clkHz.toNat
        ∧ configureWith Config.wsNs variant div count clkHz s = configureFails s) := by
  rcases configureChecked_cases variant div count clkHz
      (derive (nsOf Config.wsNs variant.toNat) clkHz.toNat div.toNat count.toNat) s with ⟨hok, heq⟩ | ⟨hok, heq⟩
  · exact .inl ⟨(checks_iff ..).1 hok, heq⟩
  · exact .inr ⟨fun hc => by simp [(checks_iff ..).2 hc] at hok, heq⟩

/-! ### TRANSPORT's completion -/

theorem completeStep_started {s : State} {p : Pending} (hpend : s.pend = some p) (hs : frameStarted s = true) :
    completeStep s = respond .ok s.lastSf (pendOpcode p.op) { s with busy := false, line := .low } := by
  simp [completeStep, hpend, hs]

theorem completeStep_unstarted {s : State} (hs : frameStarted s = false) :
    completeStep s = { s with busy := false, line := .low } := by
  cases hpend : s.pend <;> simp [completeStep, hpend, hs]

/-- Completion writes BUSY and LINE, and with an answer PEND and RESP (spec/42_refresh_encoder.md R166). -/
theorem completeStep_eq (s : State) :
    completeStep s = { s with busy := false, line := .low, pend := (completeStep s).pend,
                              resp := (completeStep s).resp } := by
  rcases completeStep_cases s with ⟨p, -, -, heq⟩ | ⟨-, heq⟩
  · rw [heq]; rfl
  · rw [heq]

/-! ### A written word -/

theorem resp_none_of_portReady {s : State} (h : portReady s = true) : s.resp = none := by
  obtain ⟨-, hresp, -⟩ := (portReady_iff s).1 h
  exact hresp

/-- The LIFE in which a command is executed (spec/30_encoding.md R74). -/
def requiredLife : Instr → Life
  | .configure _ _ _ _ => .unconfigured
  | .setPixel _ _ _ _ => .active
  | .refresh => .active
  | .clear => .active
  | .release => .active

/-- What a command does once the LIFE checks have passed. -/
def commandEffect : Instr → State → State
  | .configure variant div count clkHz, s => configureWith Config.wsNs variant div count clkHz s
  | .setPixel index r g b, s => setPixelCmd index r g b s
  | .refresh, s => refreshCmd s
  | .clear, s => clearCmd s
  | .release, s => releaseCmd s

/-- The word and the LIFE for which a model fault is raised (spec/60_exceptions.md R224). -/
def FaultCause (w : CmdWord) (life : Life) : FaultReason → Prop
  | .useBeforeConfigure => life = .unconfigured ∧ ∃ i, decode w = some i ∧ i.opcode ≠ 1
  | .reconfigure => life = .active ∧ ∃ i, decode w = some i ∧ i.opcode = 1
  | .useAfterRelease => life = .released
  | .useAfterInitFailure => life = .failed

/-- A legal word other than CONFIGURE has its effect on an ACTIVE strip and raises R224's fault on any other. -/
theorem whenActive_cause {w : CmdWord} {i : Instr} (hd : decode w = some i) (hi : i.opcode ≠ 1) (s : State)
    (k : State → State) :
    (∃ r, FaultCause w s.life r ∧ whenActive s k = raiseFault r s)
      ∨ (s.life = .active ∧ whenActive s k = k s) := by
  cases hl : s.life with
  | unconfigured => exact .inl ⟨.useBeforeConfigure, ⟨rfl, i, hd, hi⟩, by simp [whenActive, hl]⟩
  | active => exact .inr ⟨rfl, whenActive_active hl k⟩
  | released => exact .inl ⟨.useAfterRelease, rfl, by simp [whenActive, hl]⟩
  | failed => exact .inl ⟨.useAfterInitFailure, rfl, by simp [whenActive, hl]⟩

/-- A CONFIGURE word has its effect on an UNCONFIGURED strip and raises R224's fault on any other. -/
theorem whenUnconfigured_cause {w : CmdWord} {i : Instr} (hd : decode w = some i) (hi : i.opcode = 1) (s : State)
    (k : State → State) :
    (∃ r, FaultCause w s.life r ∧ whenUnconfigured s k = raiseFault r s)
      ∨ (s.life = .unconfigured ∧ whenUnconfigured s k = k s) := by
  cases hl : s.life with
  | unconfigured => exact .inr ⟨rfl, whenUnconfigured_unconfigured hl k⟩
  | active => exact .inl ⟨.reconfigure, ⟨rfl, i, hd, hi⟩, by simp [whenUnconfigured, hl]⟩
  | released => exact .inl ⟨.useAfterRelease, rfl, by simp [whenUnconfigured, hl]⟩
  | failed => exact .inl ⟨.useAfterInitFailure, rfl, by simp [whenUnconfigured, hl]⟩

/-- A legal word raises the fault its LIFE calls for, or is executed in the LIFE its command requires. -/
theorem accepted_cases {w : CmdWord} {i : Instr} (hd : decode w = some i) (s : State) :
    (∃ r, FaultCause w s.life r ∧ accepted i s = raiseFault r s)
      ∨ (s.life = requiredLife i ∧ accepted i s = commandEffect i s) := by
  cases i with
  | configure variant div count clkHz => exact whenUnconfigured_cause hd rfl s _
  | setPixel index r g b => exact whenActive_cause hd (by simp [Instr.opcode]) s _
  | refresh => exact whenActive_cause hd (by decide) s _
  | clear => exact whenActive_cause hd (by decide) s _
  | release => exact whenActive_cause hd (by decide) s _

/-- An illegal word raises the fault its LIFE calls for, or is answered InvalidArgument (spec/30_encoding.md R76). -/
theorem illegalWord_cause (w : CmdWord) (s : State) :
    (∃ r, FaultCause w s.life r ∧ illegalWord (fieldOp w) s = raiseFault r s)
      ∨ ((s.life = .unconfigured ∨ s.life = .active)
        ∧ illegalWord (fieldOp w) s = respond .invalidArgument false (fieldOp w) s) := by
  cases hl : s.life with
  | unconfigured => exact .inr ⟨.inl rfl, by simp [illegalWord, hl]⟩
  | active => exact .inr ⟨.inr rfl, by simp [illegalWord, hl]⟩
  | released => exact .inl ⟨.useAfterRelease, rfl, by simp [illegalWord, hl]⟩
  | failed => exact .inl ⟨.useAfterInitFailure, rfl, by simp [illegalWord, hl]⟩

/-! ### A step -/

/-- The effects a step can have, with what enabled each; fresh draws come after (`step_effect`). -/
inductive StepEffect (s : State) : State → Prop where
  | fault (w : CmdWord) (rest : List HostAct) (r : FaultReason) (hhost : s.host = .write w :: rest)
      (hready : portReady s = true) (hcause : FaultCause w s.life r) :
      StepEffect s (raiseFault r { s with host := rest })
  | command (w : CmdWord) (rest : List HostAct) (i : Instr) (hhost : s.host = .write w :: rest)
      (hready : portReady s = true) (hdecode : decode w = some i) (hlife : s.life = requiredLife i) :
      StepEffect s (commandEffect i { s with host := rest })
  | illegal (w : CmdWord) (rest : List HostAct) (hhost : s.host = .write w :: rest) (hready : portReady s = true)
      (hdecode : decode w = none) (hlife : s.life = .unconfigured ∨ s.life = .active) :
      StepEffect s (respond .invalidArgument false (fieldOp w) { s with host := rest })
  | readResponse (rest : List HostAct) (w : Reg32) (hhost : s.host = .waitResp :: rest) (hresp : s.resp = some w) :
      StepEffect s { s with host := rest, resp := none, seen := s.seen ++ [.resp w] }
  | readRegister (sel : BitVec 4) (rest : List HostAct) (hhost : s.host = .read sel :: rest) :
      StepEffect s (readRegister sel { s with host := rest })
  | start (op : PendOp) (hlife : s.life = .active) (hidle : s.busy = false) (hpend : s.pend = some ⟨op, false⟩)
      (hop : op ≠ .release) : StepEffect s (frameStart s)
  | release (st : Bool) (hidle : s.busy = false) (hpend : s.pend = some ⟨.release, st⟩) :
      StepEffect s (releaseNow s)
  | emit (it : PulseItem) (hbusy : s.busy = true) (hleft : s.fpos < s.flen)
      (hitem : s.items[s.fpos.toNat]? = some it) : StepEffect s (emitItem Config.channel it s)
  | gap (hbusy : s.busy = true) (hbegun : 0 < s.fpos) (hleft : s.fpos < s.flen) (hgaps : 0 < s.gapsLeft)
      (hisolated : Config.isolated = false) : StepEffect s (gapStep s)
  | complete (hbusy : s.busy = true) (hout : s.fpos = s.flen) : StepEffect s (completeStep s)
  | timeout (p : Pending) (hbusy : s.busy = true) (hpend : s.pend = some p) (hop : p.op ≠ .release)
      (hdue : timeoutCondition Config.timed s = true) :
      StepEffect s (respond .transmissionTimeout (p.started && s.lastSf) (pendOpcode p.op) s)
  | blockReset (hdue : 0 < s.resets) : StepEffect s (resetStep s)

/-- An enabled step of HOST has one of HOST's effects. -/
theorem hostStep_effect {s u : State} (he : hostEnabled s = true) (h : hostStep s = .next u) : StepEffect s u := by
  rcases hostStep_cases h with ⟨w, rest, i, hhost, hdecode, hexec⟩ | ⟨w, rest, hhost, hdecode, hready, rfl⟩
    | ⟨rest, hhost, rfl⟩ | ⟨sel, rest, hhost, rfl⟩ | ⟨hhost, -⟩
  · obtain ⟨hready, rfl⟩ := exec_next hexec
    rcases accepted_cases hdecode { s with host := rest } with ⟨r, hcause, heq⟩ | ⟨hlife, heq⟩
    · exact heq ▸ .fault w rest r hhost hready hcause
    · exact heq ▸ .command w rest i hhost hready hdecode hlife
  · rcases illegalWord_cause w { s with host := rest } with ⟨r, hcause, heq⟩ | ⟨hlife, heq⟩
    · exact heq ▸ .fault w rest r hhost hready hcause
    · exact heq ▸ .illegal w rest hhost hready hdecode hlife
  · have hsome : s.resp.isSome = true := by simpa [hostEnabled, hhost] using he
    obtain ⟨w, hresp⟩ := Option.isSome_iff_exists.1 hsome
    rw [readResponse_some (s := { s with host := rest }) hresp]
    exact .readResponse rest w hhost hresp
  · exact .readRegister sel rest hhost
  · simp [hostEnabled, hhost] at he

/-- ENGINE starts the frame of a REFRESH or CLEAR that waited, on an idle ACTIVE strip (spec/42_refresh_encoder.md
R151). -/
theorem startCondition_cases {timed isolated : Bool} {s : State}
    (h : moveCondition timed isolated s .start = true) :
    s.life = .active ∧ s.busy = false ∧ ∃ op, s.pend = some ⟨op, false⟩ ∧ op ≠ .release := by
  simp only [moveCondition, Bool.and_eq_true, Bool.not_eq_true', beq_iff_eq] at h
  obtain ⟨⟨⟨hlife, hidle⟩, hframe⟩, hunstarted⟩ := h
  obtain ⟨⟨op, st⟩, hpend, hop⟩ := (framePending_iff s).1 hframe
  obtain rfl : st = false := by simpa [frameStarted, hpend, hop] using hunstarted
  exact ⟨hlife, hidle, op, hpend, hop⟩

/-- A step whose condition holds has one of the listed effects. -/
theorem runMove_effect {s u : State} {m : Move} (hc : moveCondition Config.timed Config.isolated s m = true)
    (h : runMove m s = .next u) : StepEffect s u := by
  cases m with
  | host => exact hostStep_effect hc h
  | start =>
    obtain ⟨hlife, hidle, op, hpend, hop⟩ := startCondition_cases hc
    cases h
    exact .start op hlife hidle hpend hop
  | release =>
    simp only [moveCondition, Bool.and_eq_true, Bool.not_eq_true'] at hc
    obtain ⟨hrelease, hidle⟩ := hc
    obtain ⟨⟨op, st⟩, hpend, rfl⟩ := (releasePending_iff s).1 hrelease
    cases h
    exact .release st hidle hpend
  | emit =>
    simp only [moveCondition, Bool.and_eq_true, decide_eq_true_eq] at hc
    obtain ⟨hbusy, hleft⟩ := hc
    obtain ⟨it, hitem, rfl⟩ := emitStep_next h
    exact .emit it hbusy hleft hitem
  | gap =>
    simp only [moveCondition, Bool.and_eq_true, decide_eq_true_eq, Bool.not_eq_true'] at hc
    obtain ⟨⟨⟨⟨hbusy, hbegun⟩, hleft⟩, hgaps⟩, hisolated⟩ := hc
    cases h
    exact .gap hbusy hbegun hleft hgaps hisolated
  | complete =>
    simp only [moveCondition, Bool.and_eq_true, beq_iff_eq] at hc
    obtain ⟨hbusy, hout⟩ := hc
    cases h
    exact .complete hbusy hout
  | timeout =>
    simp only [moveCondition, Bool.and_eq_true] at hc
    obtain ⟨⟨hframe, hbusy⟩, hdue⟩ := hc
    obtain ⟨p, hpend, hop⟩ := (framePending_iff s).1 hframe
    cases h
    exact timeoutStep_some hpend ▸ .timeout p hbusy hpend hop hdue
  | blockReset =>
    cases h
    exact .blockReset (by simpa [moveCondition] using hc)

/-- A step that goes on waits unchanged, or has one of the listed effects and then fresh draws. -/
theorem step_effect {s t : State} (h : step s = .next t) : t = s ∨ ∃ u, StepEffect s u ∧ t = freshDraws u := by
  rcases stepWith_next h with ⟨-, -, rfl⟩ | ⟨m, u, he, -, hrun, rfl⟩
  · exact .inl rfl
  · exact .inr ⟨u, runMove_effect (moveCondition_of_enabled he) hrun, rfl⟩

end Sys2Proof.Machine
end

section
/-! PROOFS. The invariant of the machine: it holds at reset, every operation on the state keeps it, and so does every
step (spec/10_state.md R21 to R31). -/

namespace Sys2Proof.Machine

/-! ### The parts of the invariant -/

/-- What the invariant does not speak of: FAULT, the timer, and what is outside the block. -/
theorem Inv.outside {s : State} (h : Inv s) (fault : Option FaultReason) (elapsed : Nat) (wire : List WireEvent)
    (host : List HostAct) (seen : List HostSeen) (resets gapsLeft : Nat) (draws : Draws) :
    Inv { s with fault := fault, elapsed := elapsed, wire := wire, host := host, seen := seen, resets := resets,
                 gapsLeft := gapsLeft, draws := draws } where
  memory := h.memory
  line := h.line
  framed := ⟨h.framed.snapshot, h.framed.items, h.framed.flen, h.framed.fpos, h.framed.busy⟩
  configured hlife := ⟨(h.configured hlife).checks, (h.configured hlife).derived⟩
  unconfigured hlife :=
    have hu := h.unconfigured hlife
    ⟨hu.config, hu.ticks, hu.frame, hu.idle⟩
  started := h.started
  answered := h.answered

/-- The invariant keeps the line low, so an event that leaves it low again keeps the invariant. -/
theorem Inv.lineLow {s : State} (h : Inv s) : Inv { s with line := .low } := by
  have heq : { s with line := .low } = s := by rw [← h.line]
  exact heq ▸ h

/-- A frame in flight belongs to an ACTIVE strip (spec/10_state.md R35). -/
theorem Inv.active_of_busy {s : State} (h : Inv s) (hbusy : s.busy = true) : s.life = .active := by
  by_contra hlife
  obtain ⟨hidle, -⟩ := (h.unconfigured hlife).idle
  exact Bool.noConfusion (hidle.symm.trans hbusy)

/-- A pending command shuts out an unread response (spec/10_state.md R28). -/
theorem Inv.pend_none_of_resp {s : State} {w : Reg32} (h : Inv s) (hresp : s.resp = some w) : s.pend = none := by
  by_contra hpend
  have := h.answered (Option.isSome_iff_ne_none.2 hpend)
  simp [hresp] at this

/-! ### Operations that keep the invariant -/

/-- BUF, PEND and RESP may change as far as R21 and R28 let them. -/
theorem Inv.replace {s : State} (h : Inv s) {buf : List Pixel} {pend : Option Pending} {resp : Option Reg32}
    (hbuf : Memory.wf s.n buf) (hlife : s.life ≠ .active → pend = none)
    (hstarted : frameStarted { s with pend := pend } = true → s.busy = true)
    (hanswered : pend.isSome = true → resp = none) : Inv { s with buf := buf, pend := pend, resp := resp } where
  memory := hbuf
  line := h.line
  framed := ⟨h.framed.snapshot, h.framed.items, h.framed.flen, h.framed.fpos, h.framed.busy⟩
  configured hactive := ⟨(h.configured hactive).checks, (h.configured hactive).derived⟩
  unconfigured hne :=
    have hu := h.unconfigured hne
    ⟨hu.config, hu.ticks, hu.frame, hu.idle.1, hlife hne⟩
  started := hstarted
  answered := hanswered

/-- An answer leaves nothing pending. -/
theorem Inv.respond {s : State} (h : Inv s) (code : ResultCode) (sf : Bool) (ope : BitVec 4) :
    Inv (respond code sf ope s) :=
  h.replace h.memory (fun _ => rfl) (fun hs => nomatch hs) (fun hp => nomatch hp)

/-- The response is read. -/
theorem Inv.resp_none {s : State} (h : Inv s) : Inv { s with resp := none } :=
  h.replace h.memory (fun hne => (h.unconfigured hne).idle.2) h.started (fun _ => rfl)

/-- The invariant asks only BUF's length (spec/10_state.md R21). -/
theorem Inv.buf {s : State} (h : Inv s) {buf : List Pixel} (hbuf : Memory.wf s.n buf) : Inv { s with buf := buf } :=
  h.replace hbuf (fun hne => (h.unconfigured hne).idle.2) h.started h.answered

/-- A command starts to wait on an ACTIVE strip whose response has been read (spec/10_state.md R28). -/
theorem Inv.startPending {s : State} (h : Inv s) (hlife : s.life = .active) (hresp : s.resp = none) (op : PendOp) :
    Inv (startPending op s) :=
  h.replace h.memory (fun hne => absurd hlife hne) (fun hs => by simp [frameStarted] at hs) (fun _ => hresp)

theorem Inv.startTimer {s : State} (h : Inv s) : Inv (startTimer s) := h.outside ..

/-- A frame of a snapshot has 24 items a pixel and two resets (spec/42_refresh_encoder.md R158). -/
theorem frameItems_length (order : ChannelOrder) (t : TickFile) (snap : List Pixel) :
    (frameItems order t snap).length = frameLength snap.length := by
  rw [frameItems, List.length_append, List.length_append, flatMap_pixelItems_length, frameLength]
  simp only [List.length_singleton]
  omega

/-- A frame start puts as much of the snapshot's frame as was granted in the framer (spec/42_refresh_encoder.md
R161). -/
theorem framed_frameStart {s : State} (hbuf : Memory.wf s.n s.buf) : Framed (frameStart s) where
  snapshot := .inl hbuf
  items := by
    refine List.take_eq_take_iff.2 ?_
    simp [frameItems_length, emittedLength, show s.buf.length = s.n.toNat from hbuf]
  flen := by
    simp only [frameStart, frameStartIn_items, frameStartIn_flen, List.length_take, frameItems_length, hbuf,
      BitVec.toNat_ofNat]
    rw [Nat.mod_eq_of_lt (emittedLength_lt s.draws.grant.isLt _), emittedLength]
    omega
  fpos := by simp [frameStart]
  busy _ := by
    have hn := s.n.isLt
    refine ⟨hbuf, ?_, rfl⟩
    simp only [frameStart, frameStartIn_reqBytes, frameStartIn_n, requestBytes, BitVec.toNat_ofNat]
    omega

/-- A frame starts on an ACTIVE strip (spec/42_refresh_encoder.md R151, R152). -/
theorem Inv.frameStart {s : State} (h : Inv s) (hlife : s.life = .active) : Inv (frameStart s) where
  memory := h.memory
  line := h.line
  framed := framed_frameStart h.memory
  configured hactive := ⟨(h.configured hactive).checks, (h.configured hactive).derived⟩
  unconfigured hne := absurd hlife hne
  started _ := rfl
  answered hp := h.answered (by simpa using hp)

theorem Inv.frameStartIfIdle {s : State} (h : Inv s) (hlife : s.life = .active) : Inv (frameStartIfIdle s) := by
  cases hbusy : s.busy with
  | true => rwa [frameStartIfIdle_busy hbusy]
  | false => exact frameStartIfIdle_idle hbusy ▸ h.frameStart hlife

/-- The release frees a strip with no frame in flight (spec/43_clear_release.md R202). -/
theorem Inv.releaseNow {s : State} (h : Inv s) (hidle : s.busy = false) : Inv (releaseNow s) where
  memory := empty_wf
  line := h.line
  framed := ⟨.inr rfl, rfl, rfl, BitVec.le_refl _, fun hbusy => Bool.noConfusion (hidle.symm.trans hbusy)⟩
  configured hactive := nomatch hactive
  unconfigured _ := ⟨⟨rfl, rfl, rfl, rfl⟩, rfl, ⟨rfl, rfl, rfl, rfl, rfl, rfl, rfl⟩, hidle, rfl⟩
  started hs := nomatch hs
  answered hp := nomatch hp

/-- A frame with nobody waiting for it ends (spec/42_refresh_encoder.md R166). -/
theorem Inv.endFrame {s : State} (h : Inv s) (hs : frameStarted s = false) :
    Inv { s with busy := false, line := .low } where
  memory := h.memory
  line := rfl
  framed := ⟨h.framed.snapshot, h.framed.items, h.framed.flen, h.framed.fpos, fun hbusy => nomatch hbusy⟩
  configured hactive := ⟨(h.configured hactive).checks, (h.configured hactive).derived⟩
  unconfigured hne :=
    have hu := h.unconfigured hne
    ⟨hu.config, hu.ticks, hu.frame, rfl, hu.idle.2⟩
  started hstarted := Bool.noConfusion (hs.symm.trans hstarted)
  answered := h.answered

/-- The frame ends, and the command whose frame it was is answered (spec/42_refresh_encoder.md R166, R167). -/
theorem Inv.completeStep {s : State} (h : Inv s) : Inv (completeStep s) := by
  rcases completeStep_cases s with ⟨p, -, -, heq⟩ | ⟨hs, heq⟩
  · exact heq ▸ (h.respond .ok s.lastSf (pendOpcode p.op)).endFrame rfl
  · exact heq ▸ h.endFrame hs

theorem Inv.drive {s : State} (h : Inv s) (e : WireEvent) : Inv (drive e s) :=
  (h.outside s.fault (tickTimer (wireTicks e) s).elapsed (s.wire ++ [e]) s.host s.seen s.resets s.gapsLeft
    s.draws).lineLow

/-- FPOS advances while an item is left (spec/10_state.md R26). -/
theorem Inv.advance {s : State} (h : Inv s) (hbusy : s.busy = true) (hleft : s.fpos < s.flen) :
    Inv { s with fpos := s.fpos + 1 } where
  memory := h.memory
  line := h.line
  framed := ⟨h.framed.snapshot, h.framed.items, h.framed.flen, by
    show s.fpos + 1 ≤ s.flen
    bv_omega, h.framed.busy⟩
  configured hactive := ⟨(h.configured hactive).checks, (h.configured hactive).derived⟩
  unconfigured hne := absurd (h.active_of_busy hbusy) hne
  started := h.started
  answered := h.answered

/-! ### CONFIGURE -/

/-- A failed CONFIGURE stores nothing (spec/40_configure.md R108). -/
theorem Inv.configureFails {s : State} (h : Inv s) (hlife : s.life ≠ .active) : Inv (configureFails s) :=
  Inv.respond (s := { s with life := .failed })
    { memory := h.memory
      line := h.line
      framed := ⟨h.framed.snapshot, h.framed.items, h.framed.flen, h.framed.fpos, h.framed.busy⟩
      configured := fun hactive => nomatch hactive
      unconfigured := fun _ =>
        have hu := h.unconfigured hlife
        ⟨hu.config, hu.ticks, hu.frame, hu.idle⟩
      started := h.started
      answered := h.answered } _ _ _

/-- A successful CONFIGURE stores checked values; the strip it configures has had no frame (spec/40_configure.md
R107). -/
theorem Inv.configureStores {s : State} (h : Inv s) (hlife : s.life ≠ .active) {variant : BitVec 4} {div : BitVec 8}
    {count : BitVec 16} {clkHz : BitVec 32} {ticks : TickFile}
    (hchecks : ConfigureChecks variant.toNat div.toNat count.toNat clkHz.toNat)
    (hticks : HoldsDerived variant.toNat div.toNat count.toNat clkHz.toNat ticks) :
    Inv (configureStores variant div count clkHz ticks s) := by
  obtain ⟨hsnap, hitems, -, -, hgrant, -⟩ := (h.unconfigured hlife).frame
  exact {
    memory := bufZero_wf count
    line := h.line
    framed := ⟨.inr hsnap, by simp [hitems, hgrant], h.framed.flen, h.framed.fpos, fun hbusy => nomatch hbusy⟩
    configured := fun _ => ⟨hchecks, hticks⟩
    unconfigured := fun hne => absurd rfl hne
    started := fun hs => nomatch hs
    answered := fun hp => nomatch hp }

theorem Inv.configureWith {s : State} (h : Inv s) (hlife : s.life ≠ .active) (variant : BitVec 4) (div : BitVec 8)
    (count : BitVec 16) (clkHz : BitVec 32) : Inv (configureWith Config.wsNs variant div count clkHz s) := by
  rcases configureWith_cases variant div count clkHz s with ⟨hchecks, heq⟩ | ⟨-, heq⟩
  · exact heq ▸ h.configureStores hlife hchecks (tickFile_holds hchecks)
  · exact heq ▸ h.configureFails hlife

/-! ### The other commands -/

theorem Inv.setPixelCmd {s : State} (h : Inv s) (index : BitVec 16) (r g b : Byte) :
    Inv (setPixelCmd index r g b s) := by
  rcases setPixelCmd_cases index r g b s with ⟨-, heq⟩ | ⟨-, heq⟩
  · exact heq ▸ (h.buf (bufWrite_wf h.memory _ _)).respond _ _ _
  · exact heq ▸ h.respond _ _ _

theorem Inv.refreshCmd {s : State} (h : Inv s) (hlife : s.life = .active) (hresp : s.resp = none) :
    Inv (refreshCmd s) :=
  (h.startPending hlife hresp .refresh).startTimer.frameStartIfIdle hlife

theorem Inv.clearCmd {s : State} (h : Inv s) (hlife : s.life = .active) (hresp : s.resp = none) : Inv (clearCmd s) :=
  (Inv.startPending (s := zeroBuffer s) (h.buf (bufZero_wf s.n)) hlife hresp .clear).startTimer.frameStartIfIdle hlife

theorem Inv.releaseCmd {s : State} (h : Inv s) (hlife : s.life = .active) (hresp : s.resp = none) :
    Inv (releaseCmd s) := by
  have hwaits := h.startPending hlife hresp .release
  cases hbusy : s.busy with
  | true => exact releaseCmd_busy hbusy ▸ hwaits
  | false => exact releaseCmd_idle hbusy ▸ hwaits.releaseNow hbusy

/-- A command executed in the LIFE it requires keeps the invariant. -/
theorem Inv.commandEffect {s : State} (h : Inv s) {i : Instr} (hlife : s.life = requiredLife i)
    (hresp : s.resp = none) : Inv (commandEffect i s) := by
  cases i with
  | configure variant div count clkHz => exact h.configureWith (by simp [hlife, requiredLife]) variant div count clkHz
  | setPixel index r g b => exact h.setPixelCmd index r g b
  | refresh => exact h.refreshCmd hlife hresp
  | clear => exact h.clearCmd hlife hresp
  | release => exact h.releaseCmd hlife hresp

/-! ### Reset and the step -/

/-- Settles O51: at reset nothing is configured, sent or pending. -/
theorem invariantHoldsAtReset : Obligations.InvariantHoldsAtReset where
  memory := reset_memory_wf
  line := rfl
  framed := ⟨.inr rfl, rfl, rfl, BitVec.le_refl _, fun hbusy => nomatch hbusy⟩
  configured hactive := nomatch hactive
  unconfigured _ := ⟨⟨rfl, rfl, rfl, rfl⟩, rfl, ⟨rfl, rfl, rfl, rfl, rfl, rfl, rfl⟩, rfl, rfl⟩
  started hs := nomatch hs
  answered hp := nomatch hp

/-- A block reset is the reset state but for what the invariant does not speak of. -/
theorem inv_resetStep (s : State) : Inv (resetStep s) := Inv.outside invariantHoldsAtReset ..

/-- Every effect of a step keeps the invariant. -/
theorem StepEffect.inv {s u : State} (h : Inv s) (he : StepEffect s u) : Inv u := by
  cases he with
  | fault w rest r hhost hready hcause => exact h.outside ..
  | command w rest i hhost hready hdecode hlife =>
    exact Inv.commandEffect (s := { s with host := rest }) (h.outside ..) hlife (resp_none_of_portReady hready)
  | illegal w rest hhost hready hdecode hlife => exact Inv.respond (h.outside ..) _ _ _
  | readResponse rest w hhost hresp => exact Inv.outside h.resp_none ..
  | readRegister sel rest hhost => exact h.outside ..
  | start op hlife hidle hpend hop => exact h.frameStart hlife
  | release st hidle hpend => exact h.releaseNow hidle
  | emit it hbusy hleft hitem => exact Inv.advance (h.drive _) hbusy hleft
  | gap hbusy hbegun hleft hgaps hisolated => exact Inv.outside (h.drive _) ..
  | complete hbusy hout => exact h.completeStep
  | timeout p hbusy hpend hop hdue => exact h.respond _ _ _
  | blockReset hdue => exact inv_resetStep s

/-- Settles O52: a step waits or has one of the listed effects, each of which keeps the invariant; fresh draws are
outside it. -/
theorem stepKeepsTheInvariant : Obligations.StepKeepsTheInvariant := by
  unfold Obligations.StepKeepsTheInvariant
  intro s t h hstep
  rcases step_effect hstep with rfl | ⟨u, he, rfl⟩
  · exact h
  · exact Inv.outside (he.inv h) ..

end Sys2Proof.Machine
end

section
/-! PROOFS. What a step may write of FAULT, the configuration, BUF and RESP (spec/10_state.md R21, R22, R24, R29,
R30), and the length of a frame (R26). -/

namespace Sys2Proof.Machine

/-! ### FAULT -/

/-- With FAULT set only the reset input can act (R30; log entry 2). -/
theorem enabledMoves_of_fault {s : State} {r : FaultReason} (h : s.fault = some r) (timed isolated : Bool) :
    enabledMoves timed isolated s = if 0 < s.resets then [.blockReset] else [] := by
  simp [enabledMoves, allMoves, moveEnabled, moveCondition, h, List.filter_cons]

/-- Settles O11: the enabled steps of a faulted state are the block reset that is due, or none. -/
theorem faultedStateHasNoAgentStep : Obligations.FaultedStateHasNoAgentStep := by
  unfold Obligations.FaultedStateHasNoAgentStep
  intro s r hfault
  have henabled := enabledMoves_of_fault hfault Config.timed Config.isolated
  refine ⟨fun hnone => ?_, fun hdue => ?_⟩
  · simp [step, stepWith, chosenMove, henabled, hnone, noStep, hfault]
  · exact stepWith_chosen (chosenMove_of_unique (by rw [henabled, if_pos hdue]))

/-- A command executed in the LIFE it requires raises no fault. -/
theorem commandEffect_fault (i : Instr) (s : State) : (commandEffect i s).fault = s.fault := by
  cases i with
  | configure variant div count clkHz =>
    rcases configureWith_cases variant div count clkHz s with ⟨-, heq⟩ | ⟨-, heq⟩ <;>
      simp [commandEffect, heq]
  | setPixel index r g b =>
    rcases setPixelCmd_cases index r g b s with ⟨-, heq⟩ | ⟨-, heq⟩ <;> simp [commandEffect, heq]
  | refresh => rcases refreshCmd_cases s with heq | heq <;> simp [commandEffect, heq]
  | clear => rcases clearCmd_cases s with heq | heq <;> simp [commandEffect, heq]
  | release =>
    cases hbusy : s.busy with
    | true => simp [commandEffect, releaseCmd_busy hbusy]
    | false => simp [commandEffect, releaseCmd_idle hbusy]

/-- Only a written word raises a fault, for the cause R224 names. -/
theorem StepEffect.fault_cases {s u : State} (he : StepEffect s u) :
    u.fault = s.fault ∨ ∃ w rest r, s.host = .write w :: rest ∧ FaultCause w s.life r
      ∧ u = raiseFault r { s with host := rest } := by
  cases he with
  | fault w rest r hhost hready hcause => exact .inr ⟨w, rest, r, hhost, hcause, rfl⟩
  | command w rest i hhost hready hdecode hlife => exact .inl (commandEffect_fault i _)
  | complete hbusy hout => exact .inl (by rw [completeStep_eq])
  | _ => exact .inl (by simp)

/-- Settles O12: a faulted state's only step is a block reset, which keeps FAULT; in any other state only a written
word sets it. -/
theorem faultIsSetOnlyByAWordAndNeverCleared : Obligations.FaultIsSetOnlyByAWordAndNeverCleared := by
  unfold Obligations.FaultIsSetOnlyByAWordAndNeverCleared
  intro s t hstep
  refine ⟨fun r hfault => ?_, fun r hnone hfault => ?_⟩
  · obtain ⟨hstops, hresets⟩ := faultedStateHasNoAgentStep s r hfault
    rcases Nat.eq_zero_or_pos s.resets with hzero | hdue
    · cases (hstops hzero).symm.trans hstep
    · cases (hresets hdue).symm.trans hstep
      exact hfault
  · rcases step_effect hstep with rfl | ⟨u, he, rfl⟩
    · simp [hnone] at hfault
    rcases he.fault_cases with hkept | ⟨w, rest, r', hhost, hcause, rfl⟩
    · simp [hkept, hnone] at hfault
    · obtain rfl : r' = r := by simpa using hfault
      exact ⟨w, rest, hhost, rfl, rfl, hcause⟩

/-! ### The configuration -/

/-- A command on an ACTIVE strip keeps LIFE and the configuration, or is the release (R22, R24). -/
theorem commandEffect_keeps_or_releases {i : Instr} {s : State} (hi : requiredLife i = .active) :
    ((commandEffect i s).life = s.life ∧ SameConfiguration s (commandEffect i s))
      ∨ (commandEffect i s).life = .released := by
  cases i with
  | configure variant div count clkHz => cases hi
  | setPixel index r g b =>
    rcases setPixelCmd_cases index r g b s with ⟨-, heq⟩ | ⟨-, heq⟩ <;>
      simp [commandEffect, heq, SameConfiguration]
  | refresh => rcases refreshCmd_cases s with heq | heq <;> simp [commandEffect, heq, SameConfiguration]
  | clear => rcases clearCmd_cases s with heq | heq <;> simp [commandEffect, heq, SameConfiguration]
  | release =>
    cases hbusy : s.busy with
    | true => exact .inl (by simp [commandEffect, releaseCmd_busy hbusy, SameConfiguration])
    | false => exact .inr (by simp [commandEffect, releaseCmd_idle hbusy])

/-- On an ACTIVE strip LIFE and the configuration are kept but by the release and a block reset. -/
theorem StepEffect.keeps_configuration {s u : State} (he : StepEffect s u) (hactive : s.life = .active) :
    (u.life = s.life ∧ SameConfiguration s u) ∨ u.life = .released
      ∨ (u.life = .unconfigured ∧ u.resets + 1 = s.resets) := by
  cases he with
  | command w rest i hhost hready hdecode hlife =>
    have hi : requiredLife i = .active := hlife.symm.trans hactive
    rcases commandEffect_keeps_or_releases (s := { s with host := rest }) hi with hkeeps | hreleased
    · exact .inl hkeeps
    · exact .inr (.inl hreleased)
  | release st hidle hpend => exact .inr (.inl rfl)
  | blockReset hdue => exact .inr (.inr ⟨rfl, Nat.sub_add_cancel hdue⟩)
  | complete hbusy hout => exact .inl (by rw [completeStep_eq]; simp [SameConfiguration])
  | _ => exact .inl (by simp [SameConfiguration])

/-- Settles O54: no other effect of a step writes the configuration of an ACTIVE strip. -/
theorem tickConstantsNeverChange : Obligations.TickConstantsNeverChange := by
  unfold Obligations.TickConstantsNeverChange
  intro s t hstep hactive
  rcases step_effect hstep with rfl | ⟨u, he, rfl⟩
  · exact .inl ⟨hactive, rfl, rfl, rfl, rfl, rfl⟩
  · have hkeeps := he.keeps_configuration hactive
    rwa [hactive] at hkeeps

/-! ### BUF -/

/-- Settles O56: every effect but those of the listed writers keeps BUF, REFRESH's among them. -/
theorem whoWritesTheBuffer : Obligations.WhoWritesTheBuffer := by
  unfold Obligations.WhoWritesTheBuffer
  intro s t _ hstep hbuf
  rcases step_effect hstep with rfl | ⟨u, he, rfl⟩
  · exact absurd rfl hbuf
  cases he with
  | command w rest i hhost hready hdecode hlife =>
    refine .inl ⟨w, rest, hhost, ?_⟩
    cases i with
    | configure variant div count clkHz => exact .inr (.inr (.inl ⟨variant, div, count, clkHz, hdecode⟩))
    | setPixel index r g b => exact .inl ⟨index, r, g, b, hdecode⟩
    | refresh =>
      rcases refreshCmd_cases { s with host := rest } with heq | heq <;> simp [commandEffect, heq] at hbuf
    | clear => exact .inr (.inl hdecode)
    | release => exact .inr (.inr (.inr hdecode))
  | release st hidle hpend => exact .inr (.inl ⟨rfl, st, hpend⟩)
  | blockReset hdue => exact .inr (.inr ⟨rfl, Nat.sub_add_cancel hdue⟩)
  | complete hbusy hout => exact absurd (by rw [completeStep_eq]; rfl) hbuf
  | _ => simp at hbuf

/-! ### RESP -/

/-- A step from a state with an unread response keeps it, is HOST's read of it, or is a block reset: every other step
that would write RESP needs an empty RESP or a pending command. -/
theorem StepEffect.keeps_response {s u : State} {w : Reg32} (he : StepEffect s u) (hresp : s.resp = some w)
    (hpend : s.pend = none) :
    u.resp = some w ∨ (u.resp = none ∧ u.seen = s.seen ++ [.resp w] ∧ s.host = .waitResp :: u.host)
      ∨ (u.resp = none ∧ u.life = .unconfigured ∧ u.resets + 1 = s.resets) := by
  cases he with
  | fault w' rest r hhost hready hcause => exact .inl hresp
  | command w' rest i hhost hready hdecode hlife => simp [resp_none_of_portReady hready] at hresp
  | illegal w' rest hhost hready hdecode hlife => simp [resp_none_of_portReady hready] at hresp
  | readResponse rest w' hhost hresp' =>
    obtain rfl : w = w' := Option.some.inj (hresp.symm.trans hresp')
    exact .inr (.inl ⟨rfl, rfl, hhost⟩)
  | readRegister sel rest hhost => exact .inl hresp
  | start op hlife hidle hp hop => exact .inl hresp
  | release st hidle hp => simp [hpend] at hp
  | emit it hbusy hleft hitem => exact .inl hresp
  | gap hbusy hbegun hleft hgaps hisolated => exact .inl hresp
  | complete hbusy hout =>
    rcases completeStep_cases s with ⟨p, hp, -, -⟩ | ⟨-, heq⟩
    · simp [hpend] at hp
    · exact .inl (by rw [heq]; exact hresp)
  | timeout p hbusy hp hop hdue => simp [hpend] at hp
  | blockReset hdue => exact .inr (.inr ⟨rfl, rfl, Nat.sub_add_cancel hdue⟩)

/-- Settles O57: under the invariant no command is pending beside an unread response. -/
theorem responseIsNeverLost : Obligations.ResponseIsNeverLost := by
  unfold Obligations.ResponseIsNeverLost
  intro s t w hinv hstep hresp
  rcases step_effect hstep with rfl | ⟨u, he, rfl⟩
  · exact .inl hresp
  · exact he.keeps_response hresp (hinv.pend_none_of_resp hresp)

/-! ### The frame's length -/

/-- Settles O53: the items begin a frame of at most 65535 pixels. -/
theorem framePositionNeverWraps : Obligations.FramePositionNeverWraps := by
  unfold Obligations.FramePositionNeverWraps
  intro s hinv
  obtain ⟨hsnapshot, hitems, hflen, hfpos, -⟩ := hinv.framed
  have hpixels : s.snap.length ≤ 65535 := by
    have hn := s.n.isLt
    rcases hsnapshot with hlen | hnil
    · omega
    · simp [hnil]
  have hframe : s.items.length ≤ frameLength s.snap.length := by
    rw [hitems, ← frameItems_length Config.channelOrder s.ticks]
    exact List.length_take_le' ..
  rw [frameLength] at hframe
  refine ⟨hfpos, by omega, hflen, fun hleft => ?_⟩
  bv_omega

end Sys2Proof.Machine
end

section
/-! PROOFS. While a frame is in flight no step depends on BUF (spec/10_state.md R25, spec/20_memory.md R62): the frame
is sent from SNAP and ITEMS, and what would read BUF, a frame start, waits. -/

namespace Sys2Proof.Machine

/-- What `k` does to `s` does not depend on BUF, but for BUF itself. -/
def IgnoresBuffer (k : State → State) (s : State) : Prop :=
  ∀ b, ∃ b', k { s with buf := b } = { k s with buf := b' }

/-- A step that goes on goes on alike from another BUF. -/
def StepIgnoresBuffer (f : State → Host.Outcome State Fault Refusal) (s : State) : Prop :=
  ∀ b u, f s = .next u → ∃ b', f { s with buf := b } = .next { u with buf := b' }

theorem IgnoresBuffer.next {k : State → State} {s : State} (h : IgnoresBuffer k s) :
    StepIgnoresBuffer (fun s => .next (k s)) s := by
  intro b u hu
  cases hu
  obtain ⟨b', heq⟩ := h b
  exact ⟨b', congrArg _ heq⟩

/-- The port is ready or not whatever BUF is. -/
theorem IgnoresBuffer.accept {k : State → State} {s : State} (h : IgnoresBuffer k s) :
    StepIgnoresBuffer (fun s => accept s k) s := by
  intro b u hu
  obtain ⟨hready, rfl⟩ := accept_next hu
  obtain ⟨b', heq⟩ := h b
  exact ⟨b', (accept_ready (s := { s with buf := b }) hready k).trans (congrArg _ heq)⟩

/-! ### The commands -/

theorem IgnoresBuffer.whenActive {k : State → State} {s : State} (h : IgnoresBuffer k s) :
    IgnoresBuffer (fun s => whenActive s k) s := by
  intro b
  cases hlife : s.life with
  | active => simpa only [Machine.whenActive, hlife] using h b
  | _ => exact ⟨b, by simp [Machine.whenActive, hlife, raiseFault]⟩

theorem IgnoresBuffer.whenUnconfigured {k : State → State} {s : State} (h : IgnoresBuffer k s) :
    IgnoresBuffer (fun s => whenUnconfigured s k) s := by
  intro b
  cases hlife : s.life with
  | unconfigured => simpa only [Machine.whenUnconfigured, hlife] using h b
  | _ => exact ⟨b, by simp [Machine.whenUnconfigured, hlife, raiseFault]⟩

theorem illegalWord_ignoresBuffer (ope : BitVec 4) (s : State) : IgnoresBuffer (illegalWord ope) s := by
  intro b
  refine ⟨b, ?_⟩
  cases hlife : s.life <;> simp [illegalWord, hlife, raiseFault, respond]

theorem configureWith_ignoresBuffer (variant : BitVec 4) (div : BitVec 8) (count : BitVec 16) (clkHz : BitVec 32)
    (s : State) : IgnoresBuffer (configureWith Config.wsNs variant div count clkHz) s := by
  intro b
  unfold configureWith configureChecked
  split
  · exact ⟨_, rfl⟩
  · exact ⟨b, rfl⟩

theorem setPixelCmd_ignoresBuffer (index : BitVec 16) (r g b : Byte) (s : State) :
    IgnoresBuffer (setPixelCmd index r g b) s := by
  intro buf
  by_cases h : index < s.n
  · exact ⟨bufWrite buf index.toNat ⟨r, g, b⟩, by simp [setPixelCmd, h, respond]⟩
  · exact ⟨buf, by simp [setPixelCmd, h, respond]⟩

/-- Behind a frame in flight a command waits or writes BUF without reading it. -/
theorem accepted_ignoresBuffer (i : Instr) {s : State} (hbusy : s.busy = true) : IgnoresBuffer (accepted i) s := by
  cases i with
  | configure variant div count clkHz => exact (configureWith_ignoresBuffer variant div count clkHz s).whenUnconfigured
  | setPixel index r g b => exact (setPixelCmd_ignoresBuffer index r g b s).whenActive
  | refresh =>
    refine IgnoresBuffer.whenActive fun b => ⟨b, ?_⟩
    simp [refreshCmd, frameStartIfIdle_busy, hbusy, startTimer, startPending]
  | clear =>
    refine IgnoresBuffer.whenActive fun b => ⟨bufZero s.n.toNat, ?_⟩
    simp [clearCmd, frameStartIfIdle_busy, hbusy, startTimer, startPending, zeroBuffer]
  | release =>
    refine IgnoresBuffer.whenActive fun b => ⟨b, ?_⟩
    simp [releaseCmd_busy, hbusy, startPending]

/-! ### The step -/

theorem acceptWord_ignoresBuffer (w : CmdWord) {s : State} (hbusy : s.busy = true) :
    StepIgnoresBuffer (acceptWord w) s := by
  intro b u hu
  cases hdecode : decode w with
  | some i =>
    simp only [acceptWord, hdecode, exec_eq_accept] at hu ⊢
    exact (accepted_ignoresBuffer i hbusy).accept b u hu
  | none =>
    simp only [acceptWord, hdecode] at hu ⊢
    exact (illegalWord_ignoresBuffer (fieldOp w) s).accept b u hu

/-- No register of the read bank shows BUF, and the response is no part of it. -/
theorem hostAct_ignoresBuffer (a : HostAct) {s : State} (hbusy : s.busy = true) :
    StepIgnoresBuffer (hostAct a) s := by
  cases a with
  | write w => exact acceptWord_ignoresBuffer w hbusy
  | waitResp =>
    refine IgnoresBuffer.next fun b => ⟨b, ?_⟩
    cases hresp : s.resp <;> simp [readResponse, hresp]
  | read sel => exact IgnoresBuffer.next fun b => ⟨b, rfl⟩

theorem hostStep_ignoresBuffer {s : State} (hbusy : s.busy = true) : StepIgnoresBuffer hostStep s := by
  intro b u hu
  cases hhost : s.host with
  | nil =>
    obtain rfl : s = u := by simpa [hostStep, hhost] using hu
    exact ⟨b, by simp [hostStep, hhost]⟩
  | cons a rest =>
    simp only [hostStep, hhost] at hu ⊢
    exact hostAct_ignoresBuffer a (s := { s with host := rest }) hbusy b u hu

theorem emitStep_ignoresBuffer (s : State) : StepIgnoresBuffer emitStep s := by
  intro b u hu
  obtain ⟨it, hitem, rfl⟩ := emitStep_next hu
  exact ⟨b, by simp only [emitStep, hitem]; rfl⟩

theorem completeStep_ignoresBuffer (s : State) : IgnoresBuffer completeStep s := by
  intro b
  cases hs : frameStarted s with
  | false =>
    have heq : completeStep { s with buf := b } = { s with buf := b, busy := false, line := .low } :=
      completeStep_unstarted hs
    exact ⟨b, by rw [heq, completeStep_unstarted hs]⟩
  | true =>
    obtain ⟨p, hpend, -⟩ := (frameStarted_iff s).1 hs
    have heq := completeStep_started (s := { s with buf := b }) hpend hs
    exact ⟨b, by rw [heq, completeStep_started hpend hs]; rfl⟩

theorem timeoutStep_ignoresBuffer (s : State) : IgnoresBuffer timeoutStep s := by
  intro b
  refine ⟨b, ?_⟩
  cases hpend : s.pend <;> simp [timeoutStep, hpend, respond]

/-- The two steps that read or free BUF beside a command's, a frame start and a release, wait for the frame. -/
theorem runMove_ignoresBuffer {timed isolated : Bool} {s : State} {m : Move} (hbusy : s.busy = true)
    (hc : moveCondition timed isolated s m = true) : StepIgnoresBuffer (runMove m) s := by
  cases m with
  | host => exact hostStep_ignoresBuffer hbusy
  | start => simp [moveCondition, hbusy] at hc
  | release => simp [moveCondition, hbusy] at hc
  | emit => exact emitStep_ignoresBuffer s
  | gap => exact IgnoresBuffer.next fun b => ⟨b, rfl⟩
  | complete => exact (completeStep_ignoresBuffer s).next
  | timeout => exact (timeoutStep_ignoresBuffer s).next
  | blockReset => exact IgnoresBuffer.next fun _ => ⟨[], rfl⟩

/-- No enabling condition reads BUF, so the choice of the step does not. -/
theorem chosenMove_buf (timed isolated : Bool) (s : State) (b : List Pixel) :
    chosenMove timed isolated { s with buf := b } = chosenMove timed isolated s := rfl

theorem noStep_ignoresBuffer (s : State) : StepIgnoresBuffer noStep s := by
  intro b u hu
  refine ⟨b, ?_⟩
  cases hfault : s.fault with
  | some r => simp [noStep, hfault] at hu
  | none =>
    simp only [noStep, hfault] at hu ⊢
    split at hu <;> cases hu <;> simp [*]

/-- Settles O41: the choice of the step does not read BUF, and no step that can be chosen does. -/
theorem frameInFlightIgnoresTheBuffer : Obligations.FrameInFlightIgnoresTheBuffer := by
  unfold Obligations.FrameInFlightIgnoresTheBuffer
  intro s t b hbusy hstep
  cases hchosen : chosenMove Config.timed Config.isolated s with
  | none =>
    simp only [step, stepWith, chosenMove_buf, hchosen] at hstep ⊢
    exact noStep_ignoresBuffer s b t hstep
  | some m =>
    have hc := moveCondition_of_enabled (chosenMove_enabled hchosen)
    rw [step, stepWith_chosen hchosen] at hstep
    rw [step, stepWith_chosen ((chosenMove_buf ..).trans hchosen)]
    cases hrun : runMove m s with
    | next u =>
      obtain ⟨b', heq⟩ := runMove_ignoresBuffer hbusy hc b u hrun
      rw [hrun] at hstep
      cases hstep
      exact ⟨b', by rw [heq]; rfl⟩
    | fault r => rw [hrun] at hstep; cases hstep
    | refused r => rw [hrun] at hstep; cases hstep

end Sys2Proof.Machine
end

section
/-! PROOFS. HOST's reads, the read bank field by field, and the block reset (spec/10_state.md R29, R33 to R38). -/

namespace Sys2Proof.Machine

/-! ### HOST's reads and the block reset -/

/-- Without a model fault a step is enabled by its own condition. -/
theorem moveEnabled_of_no_fault {s : State} (h : s.fault = none) (timed isolated : Bool) (m : Move) :
    moveEnabled timed isolated s m = moveCondition timed isolated s m := by
  simp [moveEnabled, h]

/-- Settles O46: the read's condition is that RESP holds a word, and its effect is to take it. -/
theorem responseReadConsumes : Obligations.ResponseReadConsumes := by
  unfold Obligations.ResponseReadConsumes
  intro s rest hhost hfault
  refine ⟨?_, fun w hresp => ?_⟩
  · simp [moveEnabled_of_no_fault hfault, moveCondition, hostEnabled, hhost, Option.isSome_iff_ne_none]
  · simp only [runMove, hostStep, hhost, hostAct]
    rw [readResponse_some (s := { s with host := rest }) hresp]

/-- Settles O47: a register read has no condition but that no fault stands. -/
theorem registerReadHasNoSideEffect : Obligations.RegisterReadHasNoSideEffect := by
  unfold Obligations.RegisterReadHasNoSideEffect
  intro s sel rest hhost hfault
  refine ⟨?_, ?_⟩
  · simp [moveEnabled_of_no_fault hfault, moveCondition, hostEnabled, hhost]
  · simp only [runMove, hostStep, hhost, hostAct, readRegister]
    rfl

/-- Settles O50: a block reset is enabled while one is due, and its fields are those of `resetStep`. -/
theorem blockResetTakesEveryElement : Obligations.BlockResetTakesEveryElement := by
  unfold Obligations.BlockResetTakesEveryElement
  intro s hdue
  refine ⟨by simp [moveEnabled, moveCondition, hdue], resetStep s, rfl, ?_⟩
  simp

/-! ### STATUS -/

theorem flagBit_getLsbD (f : Bool) (j : Nat) : (flagBit f).getLsbD j = (decide (j = 0) && f) := by
  cases f <;> simp [flagBit, BitVec.getLsbD_one]

/-- STATUS bit by bit (R34). -/
theorem statusWord_getLsbD (s : State) (j : Nat) :
    (statusWord s).getLsbD j =
      if j < 3 then (statusState s).getLsbD j
      else if j = 3 then s.life == .active && s.lastSf
      else if j = 4 then s.pend.isSome
      else if j = 5 then s.resp.isSome
      else false := by
  simp only [statusWord, BitVec.getLsbD_append, flagBit_getLsbD]
  grind

theorem statusWord_state (s : State) : (statusWord s).extractLsb' 0 3 = statusState s := by
  apply BitVec.eq_of_getLsbD_eq
  intro j hj
  simp [statusWord_getLsbD, hj]

/-- STATUS has no bit above RESP_FULL (R34). -/
theorem statusWord_unused (s : State) : (statusWord s).extractLsb' 6 26 = 0 := by
  apply BitVec.eq_of_getLsbD_eq
  intro j hj
  rw [BitVec.getLsbD_extractLsb', statusWord_getLsbD, if_neg (by omega), if_neg (by omega), if_neg (by omega),
    if_neg (by omega)]
  simp

/-- Settles O48: the read at select 0 is STATUS, whose bits are those of R34; the invariant keeps BUSY to an ACTIVE
strip. -/
theorem statusRegisterFields : Obligations.StatusRegisterFields := by
  unfold Obligations.StatusRegisterFields
  intro s
  have hstatus : readBank s 0 = statusWord s := rfl
  rw [hstatus]
  refine ⟨statusWord_state s, ?_, ?_, ?_, statusWord_unused s, Inv.active_of_busy⟩
  · rw [statusWord_getLsbD]
    rfl
  · rw [statusWord_getLsbD]
    exact Option.isSome_iff_ne_none
  · rw [statusWord_getLsbD]
    exact Option.isSome_iff_ne_none

/-! ### The other registers -/

/-- A register shows its element on an ACTIVE strip (R34). -/
theorem whileActive_active {s : State} (h : s.life = .active) (v : Reg32) : whileActive s v = v := if_pos h

/-- A register wider than its element shows it, and 0 in its unlisted bits (R34). -/
theorem whileActive_setWidth_toNat {s : State} (h : s.life = .active) {k : Nat} (hk : k ≤ 32) (v : BitVec k) :
    (whileActive s (v.setWidth 32)).toNat = v.toNat := by
  rw [whileActive_active h, BitVec.toNat_setWidth_of_le hk]

/-- On a strip that is not ACTIVE every register but STATUS reads 0 (R34). -/
theorem readBank_not_active {s : State} (h : s.life ≠ .active) {sel : BitVec 4} (hsel : sel ≠ 0) :
    readBank s sel = 0 := by
  unfold readBank
  split
  case h_1 hstatus => exact absurd (BitVec.eq_of_toNat_eq hstatus) hsel
  all_goals simp [whileActive, h]

/-- Settles O49: each select shows its element, and 0 where the strip is not ACTIVE. -/
theorem readBankMap : Obligations.ReadBankMap := by
  unfold Obligations.ReadBankMap
  intro s
  refine ⟨fun h => ?_, rfl, fun h sel hsel => readBank_not_active h hsel⟩
  have hwide {k : Nat} (hk : k ≤ 32) (v : BitVec k) := whileActive_setWidth_toNat h hk v
  exact ⟨hwide (by decide) s.ticks.t0h, hwide (by decide) s.ticks.t0l, hwide (by decide) s.ticks.t1h,
    hwide (by decide) s.ticks.t1l, hwide (by decide) s.ticks.trst, whileActive_active h _,
    hwide (by decide) s.n, hwide (by decide) s.div, whileActive_active h _, hwide (by decide) s.variant,
    whileActive_active h _, whileActive_active h _, whileActive_active h _, whileActive_active h _⟩

end Sys2Proof.Machine
end

section
/-! PROOFS. The byte stream TRANSPORT asks for, and its translation to the frame (spec/20_memory.md R53, R54;
spec/42_refresh_encoder.md R159). -/

namespace Sys2Proof.Machine

/-! ### Lists of equal blocks -/

/-- In a list of blocks of `k` entries, position `j` is position `j % k` of block `j / k`. -/
theorem flatMap_getElem?_of_length_eq {α β : Type} {f : α → List β} {k : Nat} (hk : 0 < k)
    (hf : ∀ a, (f a).length = k) (l : List α) (j : Nat) :
    (l.flatMap f)[j]? = l[j / k]?.bind fun a => (f a)[j % k]? := by
  induction l generalizing j with
  | nil => simp
  | cons a l ih =>
    rw [List.flatMap_cons]
    by_cases hj : j < k
    · rw [List.getElem?_append_left (by rw [hf]; exact hj), Nat.div_eq_of_lt hj, Nat.mod_eq_of_lt hj]
      rfl
    · have hle : k ≤ j := Nat.le_of_not_lt hj
      rw [List.getElem?_append_right (by rw [hf]; exact hle), hf, ih, Nat.div_eq_sub_div hk hle, Nat.mod_eq_sub_mod hle]
      rfl

/-! ### The payload bytes -/

/-- A pixel has three payload bytes (R53). -/
theorem payloadBytes_length (order : ChannelOrder) (snap : List Pixel) :
    (payloadBytes order snap).length = 3 * snap.length := by
  simp [payloadBytes, List.length_flatMap, Nat.mul_comm]

/-- Payload byte `j` is component `CHANNEL_ORDER[j mod 3]` of pixel `j div 3` (R53). -/
theorem payloadBytes_getElem? {order : ChannelOrder} {snap : List Pixel} {j : Nat} {p : Pixel} {c : Component}
    (hp : snap[j / 3]? = some p) (hc : (wireComponents order)[j % 3]? = some c) :
    (payloadBytes order snap)[j]? = some (p.component c) := by
  rw [payloadBytes, flatMap_getElem?_of_length_eq (by decide : 0 < 3) (by simp), hp, Option.bind_some,
    List.getElem?_map, hc, Option.map_some]

/-- The payload bytes' items are the pixels' items, in the same order (R155). -/
theorem payloadBytes_flatMap_byteItems (order : ChannelOrder) (t : TickFile) (snap : List Pixel) :
    (payloadBytes order snap).flatMap (byteItems t) = snap.flatMap (pixelItems order t) := by
  simp only [payloadBytes, List.flatMap_assoc, List.flatMap_map]
  rfl

/-! ### The stream -/

/-- The stream has as many positions as the framer requests bytes (R54, R159). -/
theorem byteStream_length (order : ChannelOrder) (snap : List Pixel) :
    (byteStream order snap).length = requestBytes snap.length := by
  simp [byteStream, payloadBytes_length, requestBytes]

theorem byteStream_leading (order : ChannelOrder) (snap : List Pixel) :
    (byteStream order snap)[0]? = some .phantom := rfl

theorem byteStream_trailing (order : ChannelOrder) (snap : List Pixel) :
    (byteStream order snap)[3 * snap.length + 1]? = some .phantom := by
  simp [byteStream, ← payloadBytes_length order snap]

/-- The payload stands behind the leading phantom byte (R54). -/
theorem byteStream_payload {order : ChannelOrder} {snap : List Pixel} {j : Nat} {v : Byte}
    (h : (payloadBytes order snap)[j]? = some v) : (byteStream order snap)[j + 1]? = some (.payload v) := by
  obtain ⟨hj, hv⟩ := List.getElem?_eq_some_iff.1 h
  simp [byteStream, List.getElem?_append_left, hj, hv]

/-- The phantom bytes become the frame's resets and the payload its pixels (R157, R159). -/
theorem byteStream_flatMap_translateByte (order : ChannelOrder) (t : TickFile) (snap : List Pixel) :
    (byteStream order snap).flatMap (translateByte t) = frameItems order t snap := by
  have hpayload : ((payloadBytes order snap).map StreamByte.payload).flatMap (translateByte t)
      = snap.flatMap (pixelItems order t) := by
    rw [List.flatMap_map]
    exact payloadBytes_flatMap_byteItems order t snap
  rw [byteStream, List.flatMap_append, List.flatMap_append, hpayload]
  rfl

/-- Settles O29: the stream is the payload between two phantom bytes, and is translated part by part. -/
theorem byteStreamTranslatesToTheFrame : Obligations.ByteStreamTranslatesToTheFrame := by
  unfold Obligations.ByteStreamTranslatesToTheFrame
  intro order t snap
  exact ⟨byteStream_length order snap, byteStream_leading order snap, byteStream_trailing order snap,
    fun j p c hp hc => byteStream_payload (payloadBytes_getElem? hp hc),
    byteStream_flatMap_translateByte order t snap⟩

end Sys2Proof.Machine
end

section
/-! PROOFS. The fields of a command word (spec/30_encoding.md R71): they make up the word, the rows of R73 are
conditions on them, and they are what `encode` puts side by side. -/

namespace Sys2Proof

/-! ### Words side by side -/

theorem append_eq_append_iff {m n : Nat} {x x' : BitVec m} {y y' : BitVec n} :
    x ++ y = x' ++ y' ↔ x = x' ∧ y = y' := by
  refine ⟨fun h => ⟨?_, ?_⟩, fun ⟨hx, hy⟩ => hx ▸ hy ▸ rfl⟩
  · simpa [BitVec.extractLsb'_append_eq_left] using congrArg (BitVec.extractLsb' n m) h
  · simpa [BitVec.extractLsb'_append_eq_right] using congrArg (BitVec.extractLsb' 0 n) h

theorem toNat_append_eq_add {m n : Nat} (x : BitVec m) (y : BitVec n) :
    (x ++ y).toNat = x.toNat * 2 ^ n + y.toNat := by
  rw [BitVec.toNat_append, ← Nat.shiftLeft_add_eq_or_of_lt y.isLt, Nat.shiftLeft_eq]

/-! ### A word is its fields -/

/-- The fields of R71 side by side are the word, `W[31:0]` read as CLK. -/
theorem append_fields (w : CmdWord) :
    fieldOp w ++ fieldVar w ++ fieldDv w ++ fieldIdx w ++ fieldClk w = w := by
  simp only [fieldOp, fieldVar, fieldDv, fieldIdx, fieldClk, BitVec.extractLsb'_append_extractLsb'_eq_extractLsb']
  exact BitVec.extractLsb'_eq_self

/-- The fields of R71 side by side are the word, `W[31:0]` read as HI, R, G and B. -/
theorem append_pixelFields (w : CmdWord) :
    fieldOp w ++ fieldVar w ++ fieldDv w ++ fieldIdx w ++ fieldHi w ++ fieldR w ++ fieldG w ++ fieldB w = w := by
  simp only [fieldOp, fieldVar, fieldDv, fieldIdx, fieldHi, fieldR, fieldG, fieldB,
    BitVec.extractLsb'_append_extractLsb'_eq_extractLsb']
  exact BitVec.extractLsb'_eq_self

theorem eq_iff_fields (w v : CmdWord) :
    w = v ↔ fieldOp w = fieldOp v ∧ fieldVar w = fieldVar v ∧ fieldDv w = fieldDv v ∧ fieldIdx w = fieldIdx v
      ∧ fieldClk w = fieldClk v := by
  refine ⟨fun h => h ▸ ⟨rfl, rfl, rfl, rfl, rfl⟩, fun ⟨hop, hvar, hdv, hidx, hclk⟩ => ?_⟩
  rw [← append_fields w, hop, hvar, hdv, hidx, hclk, append_fields]

theorem eq_iff_pixelFields (w v : CmdWord) :
    w = v ↔ fieldOp w = fieldOp v ∧ fieldVar w = fieldVar v ∧ fieldDv w = fieldDv v ∧ fieldIdx w = fieldIdx v
      ∧ fieldHi w = fieldHi v ∧ fieldR w = fieldR v ∧ fieldG w = fieldG v ∧ fieldB w = fieldB v := by
  refine ⟨fun h => h ▸ ⟨rfl, rfl, rfl, rfl, rfl, rfl, rfl, rfl⟩,
    fun ⟨hop, hvar, hdv, hidx, hhi, hr, hg, hb⟩ => ?_⟩
  rw [← append_pixelFields w, hop, hvar, hdv, hidx, hhi, hr, hg, hb, append_pixelFields]

/-! ### The rows of R73 as conditions on the fields -/

theorem selectsConfigure_iff (w : CmdWord) : selectsConfigure w = true ↔ fieldOp w = 1 := by
  have hones (x : BitVec 4) : x &&& 15#4 = x := BitVec.and_allOnes
  rw [selectsConfigure, rowSelects, beq_iff_eq, eq_iff_fields]
  simp [fieldOp, fieldVar, fieldDv, fieldIdx, fieldClk, BitVec.extractLsb'_and, hones]

theorem selectsSetPixel_iff (w : CmdWord) :
    selectsSetPixel w = true ↔ fieldOp w = 2 ∧ fieldVar w = 0 ∧ fieldDv w = 0 ∧ fieldHi w = 0 := by
  have hones4 (x : BitVec 4) : x &&& 15#4 = x := BitVec.and_allOnes
  have hones8 (x : BitVec 8) : x &&& 255#8 = x := BitVec.and_allOnes
  rw [selectsSetPixel, rowSelects, beq_iff_eq, eq_iff_pixelFields]
  simp [fieldOp, fieldVar, fieldDv, fieldIdx, fieldHi, fieldR, fieldG, fieldB, BitVec.extractLsb'_and, hones4, hones8]

/-- A row whose mask is all ones matches one word. -/
theorem rowSelects_full (pattern w : CmdWord) : rowSelects pattern 0xFFFFFFFFFFFFFFFF w = true ↔ w = pattern := by
  rw [rowSelects, beq_iff_eq, show (0xFFFFFFFFFFFFFFFF : CmdWord) = BitVec.allOnes 64 from rfl, BitVec.and_allOnes]

theorem selectsRefresh_iff (w : CmdWord) :
    selectsRefresh w = true ↔
      fieldOp w = 3 ∧ fieldVar w = 0 ∧ fieldDv w = 0 ∧ fieldIdx w = 0 ∧ fieldClk w = 0 :=
  (rowSelects_full ..).trans (eq_iff_fields ..)

theorem selectsClear_iff (w : CmdWord) :
    selectsClear w = true ↔
      fieldOp w = 4 ∧ fieldVar w = 0 ∧ fieldDv w = 0 ∧ fieldIdx w = 0 ∧ fieldClk w = 0 :=
  (rowSelects_full ..).trans (eq_iff_fields ..)

theorem selectsRelease_iff (w : CmdWord) :
    selectsRelease w = true ↔
      fieldOp w = 5 ∧ fieldVar w = 0 ∧ fieldDv w = 0 ∧ fieldIdx w = 0 ∧ fieldClk w = 0 :=
  (rowSelects_full ..).trans (eq_iff_fields ..)

/-! ### The fields of an encoded command -/

theorem fields_encode_configure (variant : BitVec 4) (div : BitVec 8) (count : BitVec 16) (clkHz : BitVec 32) :
    fieldVar (encode (.configure variant div count clkHz)) = variant
      ∧ fieldDv (encode (.configure variant div count clkHz)) = div
      ∧ fieldIdx (encode (.configure variant div count clkHz)) = count
      ∧ fieldClk (encode (.configure variant div count clkHz)) = clkHz := by
  obtain ⟨hidx, hclk⟩ := append_eq_append_iff.1 (append_fields (encode (.configure variant div count clkHz)))
  simp only [append_eq_append_iff, and_assoc] at hidx
  obtain ⟨-, hvar, hdv, hidx⟩ := hidx
  exact ⟨hvar, hdv, hidx, hclk⟩

theorem fields_encode_setPixel (index : BitVec 16) (r g b : Byte) :
    fieldIdx (encode (.setPixel index r g b)) = index ∧ fieldR (encode (.setPixel index r g b)) = r
      ∧ fieldG (encode (.setPixel index r g b)) = g ∧ fieldB (encode (.setPixel index r g b)) = b := by
  obtain ⟨hhigh, hb⟩ := append_eq_append_iff.1 (append_pixelFields (encode (.setPixel index r g b)))
  simp only [append_eq_append_iff, and_assoc] at hhigh
  obtain ⟨-, -, -, hidx, -, hr, hg⟩ := hhigh
  exact ⟨hidx, hr, hg, hb⟩

end Sys2Proof
end

section
/-! PROOFS. `decode` and `encode` are inverse to each other, and the words that are illegal (spec/30_encoding.md R73
to R76). -/

namespace Sys2Proof

/-! ### Decoding and encoding -/

/-- A word that selects CONFIGURE's row decodes to CONFIGURE with the word's fields for operands (R73, R75). -/
theorem decode_of_selectsConfigure {w : CmdWord} (h : selectsConfigure w = true) :
    decode w = some (.configure (fieldVar w) (fieldDv w) (fieldIdx w) (fieldClk w)) :=
  if_pos h

/-- A word that selects SET_PIXEL's row selects no row before it, for the rows' OP values differ (R73). -/
theorem decode_of_selectsSetPixel {w : CmdWord} (h : selectsSetPixel w = true) :
    decode w = some (.setPixel (fieldIdx w) (fieldR w) (fieldG w) (fieldB w)) := by
  have hother : selectsConfigure w ≠ true := by
    obtain ⟨hop, -⟩ := (selectsSetPixel_iff w).1 h
    rw [Ne, selectsConfigure_iff, hop]
    decide
  rw [decode, if_neg hother, if_pos h]

/-- Settles O2: an encoded command selects its own row, and the operands are the fields read back. -/
theorem decodeOfEncodeIsIdentity : Obligations.DecodeOfEncodeIsIdentity := by
  unfold Obligations.DecodeOfEncodeIsIdentity
  intro i
  cases i with
  | configure variant div count clkHz =>
    obtain ⟨hvar, hdv, hidx, hclk⟩ := fields_encode_configure variant div count clkHz
    obtain ⟨-, hrow⟩ := Laws.OneRow.configure variant div count clkHz
    rw [decode_of_selectsConfigure hrow, hvar, hdv, hidx, hclk]
  | setPixel index r g b =>
    obtain ⟨hidx, hr, hg, hb⟩ := fields_encode_setPixel index r g b
    obtain ⟨-, hrow⟩ := Laws.OneRow.setPixel index r g b
    rw [decode_of_selectsSetPixel hrow, hidx, hr, hg, hb]
  | refresh => rfl
  | clear => rfl
  | release => rfl

/-- Settles O3: a word is its fields side by side, and those its row fixes are the command's own. -/
theorem encodeOfDecodeIsIdentity : Obligations.EncodeOfDecodeIsIdentity := by
  unfold Obligations.EncodeOfDecodeIsIdentity
  intro w i hdecode
  rcases decode_cases hdecode with ⟨hrow, rfl⟩ | ⟨hrow, rfl⟩ | ⟨hrow, rfl⟩ | ⟨hrow, rfl⟩ | ⟨hrow, rfl⟩
  · rw [encode, ← (selectsConfigure_iff w).1 hrow]
    exact append_fields w
  · obtain ⟨hop, hvar, hdv, hhi⟩ := (selectsSetPixel_iff w).1 hrow
    have hw := append_pixelFields w
    rwa [hop, hvar, hdv, hhi] at hw
  · exact ((rowSelects_full ..).1 hrow).symm
  · exact ((rowSelects_full ..).1 hrow).symm
  · exact ((rowSelects_full ..).1 hrow).symm

/-- Settles O1: the decoder evaluates to what R71 to R73 give each word. -/
theorem decodeOfWrittenWords : Obligations.DecodeOfWrittenWords := by
  unfold Obligations.DecodeOfWrittenWords
  decide

/-! ### Illegal words -/

/-- A word is illegal iff no row of R73 matches it (R76). -/
theorem decode_eq_none_iff (w : CmdWord) :
    decode w = none ↔ ¬ selectsConfigure w = true ∧ ¬ selectsSetPixel w = true ∧ ¬ selectsRefresh w = true
      ∧ ¬ selectsClear w = true ∧ ¬ selectsRelease w = true := by
  unfold decode
  split_ifs <;> simp [*]

/-- OP is reserved or one of the five opcodes (R72). -/
theorem op_cases (op : BitVec 4) :
    ((op = 0 ∨ 6 ≤ op.toNat) ∧ op ≠ 1 ∧ op ≠ 2 ∧ op ≠ 3 ∧ op ≠ 4 ∧ op ≠ 5)
      ∨ op = 1 ∨ op = 2 ∨ op = 3 ∨ op = 4 ∨ op = 5 := by
  revert op
  decide

/-- The words R76 calls illegal: OP is reserved, or a field the command does not use is not 0. -/
theorem decode_eq_none_iff_fields (w : CmdWord) :
    decode w = none ↔
      (fieldOp w = 0 ∨ 6 ≤ (fieldOp w).toNat)
        ∨ (fieldOp w = 2 ∧ ¬ (fieldVar w = 0 ∧ fieldDv w = 0 ∧ fieldHi w = 0))
        ∨ ((fieldOp w = 3 ∨ fieldOp w = 4 ∨ fieldOp w = 5)
            ∧ ¬ (fieldVar w = 0 ∧ fieldDv w = 0 ∧ fieldIdx w = 0 ∧ fieldClk w = 0)) := by
  rw [decode_eq_none_iff, selectsConfigure_iff, selectsSetPixel_iff, selectsRefresh_iff, selectsClear_iff,
    selectsRelease_iff]
  rcases op_cases (fieldOp w) with ⟨hreserved, h1, h2, h3, h4, h5⟩ | hop | hop | hop | hop | hop
  · simp only [hreserved, h1, h2, h3, h4, h5, false_and, not_false_eq_true, and_self, true_or]
  all_goals simp [hop]

end Sys2Proof
end

section
/-! PROOFS. The assembler's words: R79's formulas are the encoded commands as numbers (spec/30_encoding.md R79). -/

namespace Sys2Proof

theorem AsmLine.word_of_wellFormed {l : AsmLine} (h : l.wellFormed = true) :
    l.word = l.wordNat.map (BitVec.ofNat 64) := if_pos h

theorem AsmLine.word_of_not_wellFormed {l : AsmLine} (h : l.wellFormed = false) : l.word = none :=
  if_neg (by simp [h])

theorem AsmLine.wellFormed_configure_iff (v d c k : Nat) :
    (AsmLine.configure v d c k).wellFormed = true ↔ v < 2 ^ 4 ∧ d < 2 ^ 8 ∧ c < 2 ^ 16 ∧ k < 2 ^ 32 := by
  simp [wellFormed, and_assoc]

theorem AsmLine.wellFormed_setpix_iff (i r g b : Nat) :
    (AsmLine.setpix i r g b).wellFormed = true ↔ i < 2 ^ 16 ∧ r < 2 ^ 8 ∧ g < 2 ^ 8 ∧ b < 2 ^ 8 := by
  simp [wellFormed, and_assoc]

theorem AsmLine.wellFormed_setrgb_iff (i rgb : Nat) :
    (AsmLine.setrgb i rgb).wellFormed = true ↔ i < 2 ^ 16 ∧ rgb < 2 ^ 24 := by
  simp [wellFormed]

/-- CONFIGURE's word as a number, by R79's formula. -/
theorem toNat_encode_configure (variant : BitVec 4) (div : BitVec 8) (count : BitVec 16) (clkHz : BitVec 32) :
    (encode (.configure variant div count clkHz)).toNat
      = 0x1 * 2 ^ 60 + variant.toNat * 2 ^ 56 + div.toNat * 2 ^ 48 + count.toNat * 2 ^ 32 + clkHz.toNat := by
  simp only [encode, toNat_append_eq_add, BitVec.ofNat_eq_ofNat, BitVec.toNat_ofNat]
  omega

/-- SET_PIXEL's word as a number, by R79's formula. -/
theorem toNat_encode_setPixel (index : BitVec 16) (r g b : Byte) :
    (encode (.setPixel index r g b)).toNat
      = 0x2 * 2 ^ 60 + index.toNat * 2 ^ 32 + r.toNat * 2 ^ 16 + g.toNat * 2 ^ 8 + b.toNat := by
  simp only [encode, toNat_append_eq_add, BitVec.ofNat_eq_ofNat, BitVec.toNat_ofNat]
  omega

theorem AsmLine.word_configure {v d c k : Nat} (h : (AsmLine.configure v d c k).wellFormed = true) :
    (AsmLine.configure v d c k).word
      = some (encode (.configure (BitVec.ofNat 4 v) (BitVec.ofNat 8 d) (BitVec.ofNat 16 c) (BitVec.ofNat 32 k))) := by
  obtain ⟨hv, hd, hc, hk⟩ := (wellFormed_configure_iff v d c k).1 h
  refine (word_of_wellFormed h).trans (congrArg some (BitVec.eq_of_toNat_eq ?_))
  simp only [toNat_encode_configure, BitVec.toNat_ofNat]
  omega

theorem AsmLine.word_setpix {i r g b : Nat} (h : (AsmLine.setpix i r g b).wellFormed = true) :
    (AsmLine.setpix i r g b).word
      = some (encode (.setPixel (BitVec.ofNat 16 i) (BitVec.ofNat 8 r) (BitVec.ofNat 8 g) (BitVec.ofNat 8 b))) := by
  obtain ⟨hi, hr, hg, hb⟩ := (wellFormed_setpix_iff i r g b).1 h
  refine (word_of_wellFormed h).trans (congrArg some (BitVec.eq_of_toNat_eq ?_))
  simp only [toNat_encode_setPixel, BitVec.toNat_ofNat]
  omega

/-- SETRGB stands for SETPIX with the three bytes of its colour (R79). -/
theorem AsmLine.word_setrgb {i r g b : Nat} (h : (AsmLine.setpix i r g b).wellFormed = true) :
    (AsmLine.setrgb i (r * 2 ^ 16 + g * 2 ^ 8 + b)).word = (AsmLine.setpix i r g b).word := by
  obtain ⟨hi, hr, hg, hb⟩ := (wellFormed_setpix_iff i r g b).1 h
  have hrgb : (AsmLine.setrgb i (r * 2 ^ 16 + g * 2 ^ 8 + b)).wellFormed = true :=
    (wellFormed_setrgb_iff ..).2 ⟨hi, by omega⟩
  have hred : (r * 2 ^ 16 + g * 2 ^ 8 + b) / 2 ^ 16 % 2 ^ 8 = r := by omega
  have hgreen : (r * 2 ^ 16 + g * 2 ^ 8 + b) / 2 ^ 8 % 2 ^ 8 = g := by omega
  have hblue : (r * 2 ^ 16 + g * 2 ^ 8 + b) % 2 ^ 8 = b := by omega
  rw [word_of_wellFormed hrgb, word_of_wellFormed h, wordNat, wordNat, hred, hgreen, hblue]

/-- Settles O5: R79's formulas are the numbers of the encoded words. -/
theorem assemblerWords : Obligations.AssemblerWords := by
  unfold Obligations.AssemblerWords
  exact ⟨fun _ _ _ _ => AsmLine.word_configure, fun _ _ _ _ => AsmLine.word_setpix,
    fun _ _ _ _ => AsmLine.word_setrgb, rfl, rfl, rfl,
    fun w hw => AsmLine.word_of_wellFormed (l := .word64 w) (decide_eq_true hw),
    fun _ => AsmLine.word_of_not_wellFormed⟩

end Sys2Proof
end

section
/-! PROOFS. The response word (spec/30_encoding.md R80, R81). -/

namespace Sys2Proof.Machine

/-- The bit ranges of R80 side by side are the word. -/
theorem append_responseFields (w : Reg32) :
    w.extractLsb' 12 20 ++ w.extractLsb' 8 4 ++ w.extractLsb' 5 3 ++ w.extractLsb' 4 1 ++ w.extractLsb' 0 4 = w := by
  simp only [BitVec.extractLsb'_append_extractLsb'_eq_extractLsb']
  exact BitVec.extractLsb'_eq_self

/-- Settles O6: the response word is its fields side by side. -/
theorem responseWordFields : Obligations.ResponseWordFields := by
  unfold Obligations.ResponseWordFields
  intro code sf ope
  obtain ⟨hhigh, hcode⟩ := append_eq_append_iff.1 (append_responseFields (responseWord code sf ope))
  simp only [append_eq_append_iff, and_assoc] at hhigh
  obtain ⟨hunused, hope, hreserved, hsf⟩ := hhigh
  refine ⟨hcode.trans ?_, ?_, hreserved, hope, hunused⟩
  · cases code <;> rfl
  · have hbit := congrArg (BitVec.getLsbD · 0) hsf
    cases sf <;> simpa [flagBit] using hbit

end Sys2Proof.Machine
end

section
/-! PROOFS. A written word: what a ready port does with it by the checks of the accepting step, and when HOST's write
is the step taken (spec/30_encoding.md R70, R74, R76). -/

namespace Sys2Proof.Machine

/-! ### A ready port -/

theorem acceptWord_of_decode {w : CmdWord} {i : Instr} (hd : decode w = some i) (s : State) :
    acceptWord w s = exec i s := by
  rw [acceptWord, hd]

theorem acceptWord_illegal {w : CmdWord} {s : State} (hready : portReady s = true) (hd : decode w = none) :
    acceptWord w s = .next (illegalWord (fieldOp w) s) := by
  rw [acceptWord, hd]
  exact accept_ready hready _

/-- A ready port has no command pending, so an answer writes RESP alone. -/
theorem respond_of_portReady {s : State} (hready : portReady s = true) (code : ResultCode) (sf : Bool)
    (ope : BitVec 4) : respond code sf ope s = { s with resp := some (responseWord code sf ope) } := by
  obtain ⟨hpend, -, -⟩ := (portReady_iff s).1 hready
  rw [respond, ← hpend]

/-- Only CONFIGURE is executed on an UNCONFIGURED strip, every other command on an ACTIVE one (R74). -/
theorem accepted_eq (i : Instr) (s : State) :
    accepted i s = if i.opcode = 1 then whenUnconfigured s (commandEffect i) else whenActive s (commandEffect i) := by
  cases i <;> rfl

/-- A word with a cause of R224 raises its fault and does nothing else (R74). -/
theorem acceptWord_of_faultCause {w : CmdWord} {s : State} {r : FaultReason} (hready : portReady s = true)
    (hcause : FaultCause w s.life r) : acceptWord w s = .next (raiseFault r s) := by
  cases r with
  | useBeforeConfigure =>
    obtain ⟨hlife, i, hd, hop⟩ := hcause
    rw [acceptWord_of_decode hd, exec_ready hready, accepted_eq, if_neg hop, whenActive, hlife]
  | reconfigure =>
    obtain ⟨hlife, i, hd, hop⟩ := hcause
    rw [acceptWord_of_decode hd, exec_ready hready, accepted_eq, if_pos hop, whenUnconfigured, hlife]
  | useAfterRelease | useAfterInitFailure =>
    simp only [FaultCause] at hcause
    cases hd : decode w with
    | none => rw [acceptWord_illegal hready hd, illegalWord, hcause]
    | some i =>
      rw [acceptWord_of_decode hd, exec_ready hready, accepted_eq]
      simp [whenActive, whenUnconfigured, hcause]

/-- An illegal word is answered InvalidArgument on a strip that is neither released nor failed (R76). -/
theorem acceptWord_illegal_answered {w : CmdWord} {s : State} (hready : portReady s = true) (hd : decode w = none)
    (hlife : s.life = .unconfigured ∨ s.life = .active) :
    acceptWord w s = .next { s with resp := some (responseWord .invalidArgument false (fieldOp w)) } := by
  rw [acceptWord_illegal hready hd, ← respond_of_portReady hready]
  rcases hlife with hlife | hlife <;> simp [illegalWord, hlife]

/-- Settles O4: the illegal words by their fields, and the accepting step's outcome in each LIFE. -/
theorem illegalWords : Obligations.IllegalWords := by
  unfold Obligations.IllegalWords
  exact ⟨decode_eq_none_iff_fields, by decide, fun w s hd hready =>
    ⟨acceptWord_illegal_answered hready hd,
      acceptWord_of_faultCause (r := .useAfterRelease) hready,
      acceptWord_of_faultCause (r := .useAfterInitFailure) hready⟩⟩

/-- Settles O8: a cause of R224 is a fault, an illegal word is answered, and any other word is executed. -/
theorem acceptChecksInOrder : Obligations.AcceptChecksInOrder := by
  unfold Obligations.AcceptChecksInOrder
  intro w s hready
  refine ⟨acceptWord_of_faultCause (r := .useAfterRelease) hready,
    acceptWord_of_faultCause (r := .useAfterInitFailure) hready, fun hreleased hfailed hd => ?_,
    fun i hlife hd hop => ?_, fun i hlife hd hop => ?_, fun i hd _ => acceptWord_of_decode hd s⟩
  · refine acceptWord_illegal_answered hready hd ?_
    cases hlife : s.life <;> simp_all
  · exact acceptWord_of_faultCause (r := .useBeforeConfigure) hready ⟨hlife, i, hd, hop⟩
  · exact acceptWord_of_faultCause (r := .reconfigure) hready ⟨hlife, i, hd, hop⟩

/-! ### A port that is not ready -/

theorem portReady_eq_false {s : State} (h : s.pend ≠ none ∨ s.resp ≠ none ∨ s.fault ≠ none) :
    portReady s = false := by
  rw [← Bool.not_eq_true, portReady_iff]
  rintro ⟨hpend, hresp, hfault⟩
  simp [hpend, hresp, hfault] at h

/-- A step takes HOST's write only from a ready port, and otherwise leaves it in HOST's hand (R70). -/
theorem StepEffect.keeps_write {s u : State} {w : CmdWord} {rest : List HostAct} (he : StepEffect s u)
    (hhost : s.host = .write w :: rest) (hready : portReady s = false) : u.host = s.host := by
  cases he with
  | fault _ _ _ _ hr => simp [hready] at hr
  | command _ _ _ _ hr => simp [hready] at hr
  | illegal _ _ _ hr => simp [hready] at hr
  | readResponse _ _ hh => simp [hhost] at hh
  | readRegister _ _ hh => simp [hhost] at hh
  | complete => rw [completeStep_eq]
  | _ => rfl

/-- Settles O9: exec and HOST's write both ask for a ready port, and the other steps leave HOST's queue. -/
theorem portNotReadyTakesNoWord : Obligations.PortNotReadyTakesNoWord := by
  unfold Obligations.PortNotReadyTakesNoWord
  intro s hfull
  have hready := portReady_eq_false hfull
  refine ⟨fun i => ?_, fun w rest hhost => ⟨?_, fun t hstep => ?_⟩⟩
  · rw [exec_eq_accept, accept_not_ready hready]
  · simp [moveEnabled, moveCondition, hostEnabled, hhost, hready]
  · rcases step_effect hstep with rfl | ⟨u, he, rfl⟩
    · rfl
    · exact he.keeps_write hhost hready

/-! ### The step in which HOST writes -/

/-- Where HOST moves and its action is to write a legal word, the step is exec of its command (R74). -/
theorem step_of_chosen_write {s : State} {w : CmdWord} {rest : List HostAct} {i : Instr}
    (hhost : s.host = .write w :: rest) (hd : decode w = some i)
    (hchosen : chosenMove Config.timed Config.isolated s = some .host) :
    step s = thenFresh (exec i { s with host := rest }) := by
  rw [step, stepWith_chosen hchosen, runMove, hostStep, hhost]
  exact congrArg thenFresh (acceptWord_of_decode hd _)

/-- HOST's write is enabled on a ready port (R70). -/
theorem moveEnabled_write {s : State} {w : CmdWord} {rest : List HostAct} (hhost : s.host = .write w :: rest)
    (hready : portReady s = true) (timed isolated : Bool) : moveEnabled timed isolated s .host = true := by
  obtain ⟨-, -, hfault⟩ := (portReady_iff s).1 hready
  simp [moveEnabled_of_no_fault hfault, moveCondition, hostEnabled, hhost, hready]

/-- With a ready port, no frame in flight and no block reset due, HOST's write is the only step. -/
theorem enabledMoves_write {s : State} {w : CmdWord} {rest : List HostAct} (hhost : s.host = .write w :: rest)
    (hready : portReady s = true) (hidle : s.busy = false) (hresets : s.resets = 0) (timed isolated : Bool) :
    enabledMoves timed isolated s = [.host] := by
  obtain ⟨hpend, -, hfault⟩ := (portReady_iff s).1 hready
  simp [enabledMoves, allMoves, moveEnabled_of_no_fault hfault, moveCondition, hostEnabled,
    framePending, releasePending, hhost, hready, hpend, hidle, hresets]

/-- Settles O7: HOST's write is the step where it is chosen, where nothing else is enabled, and from
`withFetchWord`. -/
theorem stepRunsDecodedInstruction : Obligations.StepRunsDecodedInstruction := by
  unfold Obligations.StepRunsDecodedInstruction
  refine ⟨fun s w rest i hhost hd hmoves => ?_, fun s w i hw hd => ?_⟩
  · refine step_of_chosen_write hhost hd ?_
    rcases hmoves with hchosen | ⟨hready, hidle, hresets⟩
    · exact hchosen
    · exact chosenMove_of_unique (enabledMoves_write hhost hready hidle hresets ..)
  · have hhost : (s.withFetchWord 64 w).host = .write (BitVec.ofNat 64 w) :: s.host := by
      rw [State.withFetchWord, Nat.mod_eq_of_lt hw, withWrite_host]
    exact step_of_chosen_write hhost hd (chosenMove_host (moveEnabled_write hhost rfl ..) rfl)

end Sys2Proof.Machine
end

section
/-! PROOFS. How LIFE moves (spec/30_encoding.md R74, spec/43_clear_release.md R202, spec/70_reset_and_hazards.md
R250). -/

namespace Sys2Proof.Machine

/-- A pending command belongs to an ACTIVE strip. -/
theorem Inv.active_of_pend {s : State} {p : Pending} (h : Inv s) (hpend : s.pend = some p) : s.life = .active := by
  by_contra hlife
  obtain ⟨-, hnone⟩ := (h.unconfigured hlife).idle
  exact Option.some_ne_none p (hpend.symm.trans hnone)

/-- Of the commands only CONFIGURE and an unhindered RELEASE move LIFE. -/
theorem commandEffect_life (i : Instr) (s : State) :
    (commandEffect i s).life = s.life
      ∨ ((∃ v d c k, i = .configure v d c k)
          ∧ ((commandEffect i s).life = .active ∨ (commandEffect i s).life = .failed))
      ∨ (i = .release ∧ s.busy = false ∧ (commandEffect i s).life = .released) := by
  cases i with
  | configure variant div count clkHz =>
    refine .inr (.inl ⟨⟨variant, div, count, clkHz, rfl⟩, ?_⟩)
    rcases configureWith_cases variant div count clkHz s with ⟨-, heq⟩ | ⟨-, heq⟩ <;> simp [commandEffect, heq]
  | setPixel index r g b =>
    rcases setPixelCmd_cases index r g b s with ⟨-, heq⟩ | ⟨-, heq⟩ <;> simp [commandEffect, heq]
  | refresh => rcases refreshCmd_cases s with heq | heq <;> simp [commandEffect, heq]
  | clear => rcases clearCmd_cases s with heq | heq <;> simp [commandEffect, heq]
  | release =>
    cases hbusy : s.busy with
    | true => exact .inl (by simp [commandEffect, releaseCmd_busy hbusy])
    | false => exact .inr (.inr ⟨rfl, rfl, by simp [commandEffect, releaseCmd_idle hbusy]⟩)

/-- Settles O55: the release that waits, the block reset and, of the commands, CONFIGURE and RELEASE move LIFE; the
word HOST writes is the encoding of its command. -/
theorem lifeTransitions : Obligations.LifeTransitions := by
  unfold Obligations.LifeTransitions
  intro s t hinv hstep
  rcases step_effect hstep with rfl | ⟨u, he, rfl⟩
  · exact .inl rfl
  cases he with
  | command w rest i hhost hready hdecode hlife =>
    obtain rfl := encodeOfDecodeIsIdentity w i hdecode
    rcases commandEffect_life i { s with host := rest } with hkept | ⟨⟨v, d, c, k, rfl⟩, hmoved⟩
      | ⟨rfl, hidle, hmoved⟩
    · exact .inl hkept
    · exact .inr (.inl ⟨hlife, hmoved, v, d, c, k, rest, hhost⟩)
    · exact .inr (.inr (.inl ⟨hlife, hmoved, hidle, .inl ⟨rest, hhost⟩⟩))
  | release st hidle hpend =>
    exact .inr (.inr (.inl ⟨hinv.active_of_pend hpend, rfl, hidle, .inr ⟨st, hpend⟩⟩))
  | blockReset hdue => exact .inr (.inr (.inr ⟨rfl, Nat.sub_add_cancel hdue⟩))
  | complete => exact .inl (by rw [completeStep_eq]; rfl)
  | _ => exact .inl rfl

end Sys2Proof.Machine
end

section
/-! PROOFS. CONFIGURE: what its accepting step does, said once, and from that its completion, its failure, the constants
it derives and its frame (spec/40_configure.md R100 to R108). -/

namespace Sys2Proof.Machine

/-! ### The accepting step -/

/-- On a ready port and an UNCONFIGURED strip CONFIGURE runs its checks. -/
theorem exec_configure_unconfigured {s : State} (hready : portReady s = true) (hlife : s.life = .unconfigured)
    (variant : BitVec 4) (div : BitVec 8) (count : BitVec 16) (clkHz : BitVec 32) :
    exec (.configure variant div count clkHz) s = .next (configureWith Config.wsNs variant div count clkHz s) := by
  rw [exec_ready hready, accepted, whenUnconfigured_unconfigured hlife]

/-- A CONFIGURE that goes on stores on an UNCONFIGURED strip what it derives, or fails there, or raises a model fault in
another LIFE. -/
theorem exec_configure_cases {s t : State} {variant : BitVec 4} {div : BitVec 8} {count : BitVec 16}
    {clkHz : BitVec 32} (h : exec (.configure variant div count clkHz) s = .next t) :
    portReady s = true
      ∧ ((s.life = .unconfigured ∧ ∃ ticks, ConfigureChecks variant.toNat div.toNat count.toNat clkHz.toNat
            ∧ HoldsDerived variant.toNat div.toNat count.toNat clkHz.toNat ticks
            ∧ t = configureStores variant div count clkHz ticks s)
        ∨ (s.life = .unconfigured ∧ ¬ ConfigureChecks variant.toNat div.toNat count.toNat clkHz.toNat
            ∧ t = configureFails s)
        ∨ (s.life ≠ .unconfigured ∧ ∃ r, t = raiseFault r s)) := by
  obtain ⟨hready, rfl⟩ := exec_next h
  refine ⟨hready, ?_⟩
  rcases whenUnconfigured_cases s (configureWith Config.wsNs variant div count clkHz)
    with ⟨hlife, heq⟩ | ⟨hlife, r, heq⟩
  · rcases configureWith_cases variant div count clkHz s with ⟨hchecks, hwith⟩ | ⟨hfails, hwith⟩
    · exact .inl ⟨hlife, _, hchecks, tickFile_holds hchecks, heq.trans hwith⟩
    · exact .inr (.inl ⟨hlife, hfails, heq.trans hwith⟩)
  · exact .inr (.inr ⟨hlife, r, heq⟩)

/-- A ready port has no command pending, so storing leaves PEND as it is. -/
theorem configureStores_of_portReady {s : State} (hready : portReady s = true) (variant : BitVec 4) (div : BitVec 8)
    (count : BitVec 16) (clkHz : BitVec 32) (ticks : TickFile) :
    configureStores variant div count clkHz ticks s
      = { s with variant := variant, div := div, n := count, clkHz := clkHz, ticks := ticks, buf := bufZero count.toNat,
                 busy := false, life := .active, resp := some (responseWord .ok false 0x1) } :=
  respond_of_portReady (s := { s with variant := variant, div := div, n := count, clkHz := clkHz, ticks := ticks,
                                      buf := bufZero count.toNat, busy := false, life := .active }) hready _ _ _

/-- A ready port has no command pending, so a failed CONFIGURE writes LIFE and RESP alone. -/
theorem configureFails_of_portReady {s : State} (hready : portReady s = true) :
    configureFails s = { s with life := .failed, resp := some (responseWord .deviceInitFailure false 0x1) } :=
  respond_of_portReady (s := { s with life := .failed }) hready _ _ _

/-! ### Completion and failure -/

/-- Settles O14: the checks decide for storing, and checked values are held without loss. -/
theorem configureSucceeds : Obligations.ConfigureSucceeds := by
  unfold Obligations.ConfigureSucceeds
  intro s v d c k hready hlife hchecks
  obtain ⟨-, heq⟩ := (configureWith_cases v d c k s).resolve_right fun ⟨hfails, _⟩ => hfails hchecks
  refine ⟨_, exec_configure_unconfigured hready hlife v d c k, ?_, heq ▸ tickFile_holds hchecks⟩
  rw [heq]
  exact configureStores_of_portReady hready ..

/-- Settles O16: the checks decide for failing, and in FAILED every word has a cause of R224. -/
theorem configureFailsOnAnyCheck : Obligations.ConfigureFailsOnAnyCheck := by
  unfold Obligations.ConfigureFailsOnAnyCheck
  intro s v d c k hready hlife hfails
  obtain ⟨-, heq⟩ := (configureWith_cases v d c k s).resolve_left fun ⟨hchecks, _⟩ => hfails hchecks
  refine ⟨?_, fun s' w => acceptWord_of_faultCause (r := .useAfterInitFailure)⟩
  rw [exec_configure_unconfigured hready hlife, heq, configureFails_of_portReady hready]
  rfl

/-! ### The constants of VARIANT 0 -/

/-- R102 with the billion written out. -/
theorem bitTicks_eq (ns clkHz div : Nat) :
    bitTicks ns clkHz div = (2 * ns * clkHz + div * 1000000000) / (2 * div * 1000000000) := by
  rw [bitTicks, show (10 : Nat) ^ 9 = 1000000000 by norm_num]

/-- Rounding up adds one less than the divisor (spec/00_scope.md R8). -/
theorem ceilDiv_eq {b : Nat} (hb : 1 ≤ b) (a : Nat) : ceilDiv a b = (a + (b - 1)) / b := by
  rw [ceilDiv, Nat.add_sub_assoc hb]

/-- R103 with the billion written out. -/
theorem resetTicks_eq {div : Nat} (hdiv : 1 ≤ div) (ns clkHz : Nat) :
    resetTicks ns clkHz div = (ns * clkHz + (div * 1000000000 - 1)) / (div * 1000000000) := by
  rw [resetTicks, show (10 : Nat) ^ 9 = 1000000000 by norm_num, ceilDiv_eq (by omega)]

/-- The per-bit worst case of VARIANT 0 is 1710 ns (R104 to R106). -/
theorem timeoutMs_ns0 (count : Nat) :
    timeoutMs Config.ns0 count = max 100 ((1710 * count * 24 + 999999) / 1000000) := by
  have hworst : worstCaseNs Config.ns0 = 1710 := rfl
  rw [timeoutMs, hworst, Config.timeoutFloorMs, Config.bitsPerPixel, ceilDiv_eq (by norm_num)]
  norm_num

/-- Settles O15: only a strip that stored is ACTIVE, and it holds what VARIANT 0's targets derive. -/
theorem variantZeroConstants : Obligations.VariantZeroConstants := by
  unfold Obligations.VariantZeroConstants
  intro s t d c k hlife hexec hactive
  obtain ⟨-, ⟨-, ticks, ⟨⟨-, ⟨hdiv, -⟩, -⟩, -⟩, hholds, rfl⟩ | ⟨-, -, rfl⟩ | ⟨hne, -⟩⟩ := exec_configure_cases hexec
  · obtain ⟨h0h, h0l, h1h, h1l, hrst, htmo⟩ := hholds
    have hns : nsOf Config.wsNs (0 : BitVec 4).toNat = Config.ns0 := rfl
    rw [hns, timeoutMs_ns0] at htmo
    simp only [hns, Config.ns0, bitTicks_eq] at h0h h0l h1h h1l
    exact ⟨h0h, h0l, BitVec.eq_of_toNat_eq (h1h.trans h0l.symm), BitVec.eq_of_toNat_eq (h1l.trans h0h.symm),
      hrst.trans (resetTicks_eq hdiv 50000 k.toNat), htmo⟩
  · cases hactive
  · exact absurd hlife hne

/-! ### The frame -/

/-- Every byte of a zeroed buffer is 0 (R107; log entry 13). -/
theorem memRead_bufZero (k a : Nat) : memRead (bufZero k) a = if a < 3 * k then some 0 else none := by
  have hzero (c : Component) : Pixel.zero.component c = 0 := by cases c <;> rfl
  have hlt : a / 3 < k ↔ a < 3 * k := by omega
  rw [memRead, bufZero_getElem?]
  by_cases h : a < 3 * k <;> simp [hlt, h, hzero]

/-- Settles O18: neither storing nor failing nor a fault writes the elements named, and only storing writes the
configuration and BUF. -/
theorem configureFrame : Obligations.ConfigureFrame := by
  unfold Obligations.ConfigureFrame
  intro s t v d c k hexec
  obtain ⟨hready, hcases⟩ := exec_configure_cases hexec
  obtain ⟨hpend, -, -⟩ := (portReady_iff s).1 hready
  rcases hcases with ⟨hlife, ticks, -, -, rfl⟩ | ⟨-, -, rfl⟩ | ⟨hlife, r, rfl⟩
  · simp [SameFrame, SameWorld, hpend, hlife, memRead_bufZero]
  · simp [SameFrame, SameWorld, SameConfiguration, SameBytes, hpend]
  · simp [SameFrame, SameWorld, SameConfiguration, SameBytes, hlife]

end Sys2Proof.Machine
end

section
/-! PROOFS. SET_PIXEL: what its accepting step does, said once, and from that its completion, its index error and its
frame (spec/41_set_pixel.md R130 to R132). -/

namespace Sys2Proof.Machine

/-! ### The accepting step -/

/-- On a ready port and an ACTIVE strip SET_PIXEL runs its index check. -/
theorem exec_setPixel_active {s : State} (hready : portReady s = true) (hlife : s.life = .active)
    (index : BitVec 16) (r g b : Byte) :
    exec (.setPixel index r g b) s = .next (setPixelCmd index r g b s) := by
  rw [exec_ready hready, accepted, whenActive_active hlife]

/-- A ready port has no command pending, so a legal index writes BUF and RESP alone. -/
theorem setPixelCmd_of_lt {s : State} {index : BitVec 16} (hready : portReady s = true)
    (hindex : index.toNat < s.n.toNat) (r g b : Byte) :
    setPixelCmd index r g b s
      = { s with buf := bufWrite s.buf index.toNat ⟨r, g, b⟩,
                 resp := some (responseWord .ok false setPixelOpcode) } := by
  obtain ⟨-, heq⟩ := (setPixelCmd_cases index r g b s).resolve_right fun ⟨hge, _⟩ => hge hindex
  rw [heq]
  exact respond_of_portReady (s := { s with buf := bufWrite s.buf index.toNat ⟨r, g, b⟩ }) hready ..

/-- A ready port has no command pending, so an index out of range writes RESP alone. -/
theorem setPixelCmd_of_ge {s : State} {index : BitVec 16} (hready : portReady s = true)
    (hindex : s.n.toNat ≤ index.toNat) (r g b : Byte) :
    setPixelCmd index r g b s = { s with resp := some (responseWord .invalidArgument false setPixelOpcode) } := by
  obtain ⟨-, heq⟩ := (setPixelCmd_cases index r g b s).resolve_left fun ⟨hlt, _⟩ => Nat.not_lt.2 hindex hlt
  rw [heq, respond_of_portReady hready]

/-- A SET_PIXEL that goes on stores one pixel of an ACTIVE strip, or answers there that the index is out of range, or
raises a model fault in another LIFE. -/
theorem exec_setPixel_cases {s t : State} {index : BitVec 16} {r g b : Byte}
    (h : exec (.setPixel index r g b) s = .next t) :
    (s.life = .active ∧ index.toNat < s.n.toNat
        ∧ t = { s with buf := bufWrite s.buf index.toNat ⟨r, g, b⟩,
                       resp := some (responseWord .ok false setPixelOpcode) })
      ∨ (s.life = .active ∧ s.n.toNat ≤ index.toNat
        ∧ t = { s with resp := some (responseWord .invalidArgument false setPixelOpcode) })
      ∨ (s.life ≠ .active ∧ ∃ reason, t = raiseFault reason s) := by
  obtain ⟨hready, rfl⟩ := exec_next h
  rcases whenActive_cases s (setPixelCmd index r g b) with ⟨hlife, heq⟩ | ⟨hlife, reason, heq⟩
  · rcases Nat.lt_or_ge index.toNat s.n.toNat with hlt | hge
    · exact .inl ⟨hlife, hlt, heq.trans (setPixelCmd_of_lt hready hlt r g b)⟩
    · exact .inr (.inl ⟨hlife, hge, heq.trans (setPixelCmd_of_ge hready hge r g b)⟩)
  · exact .inr (.inr ⟨hlife, reason, heq⟩)

/-! ### The entry SET_PIXEL stores, and its bytes -/

/-- The entry written reads back as the pixel stored. -/
theorem bufWrite_getElem?_same {buf : List Pixel} {i : Nat} (hi : i < buf.length) (p : Pixel) :
    (bufWrite buf i p)[i]? = some p := by
  rw [bufWrite_getElem?, if_pos ⟨rfl, hi⟩]

/-- Every other entry reads as before. -/
theorem bufWrite_getElem?_of_ne {i j : Nat} (h : j ≠ i) (buf : List Pixel) (p : Pixel) :
    (bufWrite buf i p)[j]? = buf[j]? := by
  rw [bufWrite_getElem?, if_neg fun ⟨heq, _⟩ => h heq.symm]

/-- The bytes of every other pixel read as before (R51). -/
theorem memRead_bufWrite_of_ne {a i : Nat} (h : a / 3 ≠ i) (buf : List Pixel) (p : Pixel) :
    memRead (bufWrite buf i p) a = memRead buf a := by
  rw [memRead, memRead, bufWrite_getElem?_of_ne h]

/-! ### Completion, index error and frame -/

/-- Settles O19: the index check decides for storing, and one entry is written. -/
theorem setPixelStoresOnePixel : Obligations.SetPixelStoresOnePixel := by
  unfold Obligations.SetPixelStoresOnePixel
  intro s index r g b hready hlife hwf hindex
  refine ⟨_, exec_setPixel_active hready hlife index r g b, ?_⟩
  rw [setPixelCmd_of_lt hready hindex]
  exact ⟨rfl, bufWrite_length .., bufWrite_getElem?_same (hwf ▸ hindex) _,
    fun j hj => bufWrite_getElem?_of_ne hj ..⟩

/-- Settles O20: the index check decides against storing, and RESP alone is written. -/
theorem setPixelIndexError : Obligations.SetPixelIndexError := by
  unfold Obligations.SetPixelIndexError
  intro s index r g b hready hlife hindex
  rw [exec_setPixel_active hready hlife, setPixelCmd_of_ge hready hindex]
  rfl

/-- Settles O21: storing writes one entry, whose three bytes are the colour's, and an index error or a fault writes no
byte. -/
theorem setPixelFrame : Obligations.SetPixelFrame := by
  unfold Obligations.SetPixelFrame
  intro s t index r g b hwf hexec
  rcases exec_setPixel_cases hexec with ⟨hlife, hlt, rfl⟩ | ⟨-, hge, rfl⟩ | ⟨hlife, reason, rfl⟩
  · obtain ⟨hbytes, -, -⟩ := pixelByteSpace (bufWrite s.buf index.toNat ⟨r, g, b⟩)
    exact ⟨rfl, fun a ha => memRead_bufWrite_of_ne ha .., fun _ => hbytes _ _ (bufWrite_getElem?_same (hwf ▸ hlt) _),
      fun hnot => absurd ⟨hlife, hlt⟩ hnot⟩
  · exact ⟨rfl, fun _ _ => rfl, fun ⟨_, hlt⟩ => absurd hlt (Nat.not_lt.2 hge), fun _ _ => rfl⟩
  · exact ⟨rfl, fun _ _ => rfl, fun ⟨hactive, _⟩ => absurd hactive hlife, fun _ _ => rfl⟩

end Sys2Proof.Machine
end

section
/-! PROOFS. The frame item by item, its duration, and the waveform of an event (spec/42_refresh_encoder.md R153 to R158,
R163, R172). -/

namespace Sys2Proof.Machine

/-! ### Positions -/

/-- Bit `j` of a pixel's component `k` in wire order stands at item `8k + (7 - j)` of the pixel (R154, R155). -/
theorem pixelItems_getElem? {order : ChannelOrder} {k j : Nat} {c : Component} (t : TickFile) (p : Pixel)
    (hc : (wireComponents order)[k]? = some c) (hj : j < 8) :
    (pixelItems order t p)[8 * k + (7 - j)]? = some (bitItem t ((p.component c).getLsbD j)) := by
  have hdiv : (8 * k + (7 - j)) / 8 = k := by omega
  have hmod : (8 * k + (7 - j)) % 8 = 7 - j := by omega
  rw [pixelItems, flatMap_getElem?_of_length_eq (by decide : 0 < 8) fun c => byteItems_length t (p.component c), hdiv,
    hmod, hc, Option.bind_some, byteItems_getElem? t _ hj]

/-- Behind the leading reset a frame has 24 items for each pixel, in index order (R157). -/
theorem frameItems_getElem?_pixel {snap : List Pixel} {i m : Nat} {p : Pixel} (order : ChannelOrder) (t : TickFile)
    (hp : snap[i]? = some p) (hm : m < 24) :
    (frameItems order t snap)[24 * i + m + 1]? = (pixelItems order t p)[m]? := by
  have hi : i < snap.length := (List.getElem?_eq_some_iff.1 hp).1
  have hbits : 24 * i + m < (snap.flatMap (pixelItems order t)).length := by
    rw [flatMap_pixelItems_length]; omega
  have hdiv : (24 * i + m) / 24 = i := by omega
  have hmod : (24 * i + m) % 24 = m := by omega
  rw [frameItems, List.append_assoc, List.singleton_append, List.getElem?_cons_succ, List.getElem?_append_left hbits,
    flatMap_getElem?_of_length_eq (by decide : 0 < 24) (pixelItems_length order t), hdiv, hmod, hp, Option.bind_some]

theorem frameItems_leading (order : ChannelOrder) (t : TickFile) (snap : List Pixel) :
    (frameItems order t snap)[0]? = some (resetItem t) := rfl

theorem frameItems_trailing (order : ChannelOrder) (t : TickFile) (snap : List Pixel) :
    (frameItems order t snap)[24 * snap.length + 1]? = some (resetItem t) := by
  rw [← flatMap_pixelItems_length order t snap]
  simp [frameItems]

/-- Settles O28: the pixels' items stand between the two resets, 24 a pixel and 8 a component. -/
theorem frameItemPositions : Obligations.FrameItemPositions := by
  unfold Obligations.FrameItemPositions
  intro order t snap
  refine ⟨frameItems_length order t snap, frameItems_leading order t snap, frameItems_trailing order t snap,
    fun i k j p c hp hc hj => ?_⟩
  have hk : k < 3 := wireComponents_length order ▸ (List.getElem?_eq_some_iff.1 hc).1
  have hposition : 1 + 24 * i + 8 * k + (7 - j) = 24 * i + (8 * k + (7 - j)) + 1 := by omega
  rw [hposition, frameItems_getElem?_pixel order t hp (by omega), pixelItems_getElem? t p hc hj]
  rfl

/-! ### Durations -/

@[simp] theorem itemsTicks_nil : itemsTicks [] = 0 := rfl

theorem itemsTicks_cons (it : PulseItem) (l : List PulseItem) : itemsTicks (it :: l) = itemTicks it + itemsTicks l := by
  simp [itemsTicks]

@[simp] theorem itemsTicks_append (l l' : List PulseItem) : itemsTicks (l ++ l') = itemsTicks l + itemsTicks l' := by
  simp [itemsTicks]

@[simp] theorem itemsTicks_reset (t : TickFile) : itemsTicks [resetItem t] = t.trst.toNat := by
  simp [itemsTicks, itemTicks, resetItem]

/-- The ticks of a logical 0. -/
def zeroTicks (t : TickFile) : Nat := t.t0h.toNat + t.t0l.toNat

/-- The ticks of a logical 1. -/
def oneTicks (t : TickFile) : Nat := t.t1h.toNat + t.t1l.toNat

theorem itemTicks_bitItem (t : TickFile) (x : Bool) :
    itemTicks (bitItem t x) = if x then oneTicks t else zeroTicks t := by
  cases x <;> rfl

/-- Bits last as many 1s as they hold, and 0s for the rest; what the 1s would last as 0s stands on the left. -/
theorem itemsTicks_map_bitItem (t : TickFile) (bits : List Bool) :
    itemsTicks (bits.map (bitItem t)) + bits.count true * zeroTicks t
      = bits.count true * oneTicks t + bits.length * zeroTicks t := by
  induction bits with
  | nil => simp
  | cons x bits ih =>
    rw [List.map_cons, itemsTicks_cons, itemTicks_bitItem, List.length_cons]
    cases x with
    | false => simp only [List.count_cons_of_ne, Ne, Bool.false_eq_true, not_false_eq_true, if_false]; linarith
    | true => simp only [List.count_cons_self, if_true]; linarith

/-- The bits of a byte in the order they go out (R154). -/
def byteBits (v : Byte) : List Bool := [7, 6, 5, 4, 3, 2, 1, 0].map fun j => v.getLsbD j

theorem byteItems_eq (t : TickFile) (v : Byte) : byteItems t v = (byteBits v).map (bitItem t) := by
  rw [byteBits, List.map_map]
  rfl

theorem byteOnes_eq (v : Byte) : byteOnes v = (byteBits v).count true := by
  rw [byteBits, List.count, List.countP_map, byteOnes, ← List.countP_eq_length_filter]
  simp [Function.comp_def]

/-- A byte lasts its 1 bits as 1s and the rest of its 8 bits as 0s (R154). -/
theorem itemsTicks_byteItems (t : TickFile) (v : Byte) :
    itemsTicks (byteItems t v) + byteOnes v * zeroTicks t = byteOnes v * oneTicks t + 8 * zeroTicks t := by
  rw [byteItems_eq, byteOnes_eq]
  exact itemsTicks_map_bitItem t (byteBits v)

theorem byteOnes_le (v : Byte) : byteOnes v ≤ 8 := byteOnes_eq v ▸ List.count_le_length

/-- A pixel lasts as long in every component order (R155). -/
theorem itemsTicks_pixelItems (order : ChannelOrder) (t : TickFile) (p : Pixel) :
    itemsTicks (pixelItems order t p)
      = itemsTicks (byteItems t p.r) + itemsTicks (byteItems t p.g) + itemsTicks (byteItems t p.b) := by
  cases order <;> simp [pixelItems, wireComponents, Pixel.component] <;> omega

theorem snapOnes_cons (p : Pixel) (snap : List Pixel) :
    snapOnes (p :: snap) = byteOnes p.r + byteOnes p.g + byteOnes p.b + snapOnes snap := rfl

theorem snapOnes_le (snap : List Pixel) : snapOnes snap ≤ 24 * snap.length := by
  induction snap with
  | nil => rfl
  | cons p snap ih =>
    have hr := byteOnes_le p.r
    have hg := byteOnes_le p.g
    have hb := byteOnes_le p.b
    rw [snapOnes_cons, List.length_cons]
    omega

/-- The pixels last their 1 bits as 1s and the rest of their bits as 0s. -/
theorem itemsTicks_flatMap_pixelItems (order : ChannelOrder) (t : TickFile) (snap : List Pixel) :
    itemsTicks (snap.flatMap (pixelItems order t)) + snapOnes snap * zeroTicks t
      = snapOnes snap * oneTicks t + 24 * snap.length * zeroTicks t := by
  induction snap with
  | nil => simp [snapOnes]
  | cons p snap ih =>
    have hr := itemsTicks_byteItems t p.r
    have hg := itemsTicks_byteItems t p.g
    have hb := itemsTicks_byteItems t p.b
    rw [List.flatMap_cons, itemsTicks_append, itemsTicks_pixelItems, snapOnes_cons, List.length_cons]
    linarith

/-- A whole frame lasts two resets and its bits, of which `n0` are 0s (R172). -/
theorem itemsTicks_frameItems {snap : List Pixel} {n0 : Nat} (order : ChannelOrder) (t : TickFile)
    (hbits : snapOnes snap + n0 = 24 * snap.length) :
    itemsTicks (frameItems order t snap)
      = 2 * t.trst.toNat + snapOnes snap * oneTicks t + n0 * zeroTicks t := by
  have hpixels := itemsTicks_flatMap_pixelItems order t snap
  rw [← hbits, Nat.add_mul] at hpixels
  rw [frameItems, itemsTicks_append, itemsTicks_append, itemsTicks_reset]
  omega

/-- VARIANT 0's targets are mirrored, so a 1 lasts as long as a 0 (R104, R259). -/
theorem oneTicks_eq_zeroTicks {s : State} (h : Configured s) (hvariant : s.variant = 0) :
    oneTicks s.ticks = zeroTicks s.ticks := by
  obtain ⟨h0h, h0l, h1h, h1l, -, -⟩ := h.derived
  have hns : nsOf Config.wsNs s.variant.toNat = Config.ns0 := by rw [hvariant]; rfl
  rw [hns] at h0h h0l h1h h1l
  rw [oneTicks, zeroTicks, h1h, h1l, h0h, h0l]
  exact Nat.add_comm ..

/-- Settles O32: a frame lasts two resets and its 1s and 0s; where a 1 lasts as long as a 0, only their number
matters. -/
theorem frameDuration : Obligations.FrameDuration := by
  unfold Obligations.FrameDuration
  refine ⟨fun order t snap => ?_, fun order s snap hconf hvariant => ?_⟩
  · have hbits := Nat.add_sub_cancel' (snapOnes_le snap)
    exact ⟨_, hbits, itemsTicks_frameItems order t hbits⟩
  · have hbits := Nat.add_sub_cancel' (snapOnes_le snap)
    rw [itemsTicks_frameItems order s.ticks hbits, oneTicks_eq_zeroTicks hconf hvariant, Nat.add_assoc,
      ← Nat.add_mul, hbits, zeroTicks]

/-! ### The waveform -/

theorem hold_ticks (level : Level) (d : Nat) : ((hold level d).map Prod.snd).sum = d := by
  unfold hold
  split <;> simp [*]

theorem hold_of_ne_zero {d : Nat} (h : d ≠ 0) (level : Level) : hold level d = [(level, d)] := if_neg h

/-- A level that is held is held for at least one tick. -/
theorem mem_hold {level : Level} {d : Nat} {x : Level × Nat} (h : x ∈ hold level d) : x.1 = level ∧ 1 ≤ x.2 := by
  rcases Nat.eq_zero_or_pos d with rfl | hd
  · cases h
  · rw [hold_of_ne_zero (by omega), List.mem_singleton] at h
    exact h ▸ ⟨rfl, hd⟩

theorem duration_ne_zero {d : Duration} (h : d ≠ 0) : d.toNat ≠ 0 := fun h0 => h (BitVec.eq_of_toNat_eq h0)

/-- Settles O33: an event's waveform is made of levels held. -/
theorem waveformOfAnEvent : Obligations.WaveformOfAnEvent := by
  unfold Obligations.WaveformOfAnEvent
  refine ⟨fun ch h l => ⟨?_, fun hh hl => ?_, ?_⟩, fun ch d hd => hold_of_ne_zero (by omega) _, fun e x hx => ?_⟩
  · rw [waveform, List.map_append, List.sum_append, hold_ticks, hold_ticks]
  · rw [waveform, hold_of_ne_zero (duration_ne_zero hh), hold_of_ne_zero (duration_ne_zero hl)]
    rfl
  · rintro rfl x hx
    have hlow : x ∈ hold .low l.toNat := hx
    exact (mem_hold hlow).1
  · cases e with
    | item ch h l =>
      rcases List.mem_append.1 hx with hhigh | hlow
      · exact (mem_hold hhigh).2
      · exact (mem_hold hlow).2
    | gap ch d => exact (mem_hold hx).2

end Sys2Proof.Machine
end

section
/-! PROOFS. REFRESH and CLEAR: what their accepting steps do, said once, the frame start, and from these REFRESH's
completion, the frame that waits, the grant and the empty strip (spec/42_refresh_encoder.md R150 to R152, R160 to R162,
R173; spec/43_clear_release.md R200). -/

namespace Sys2Proof.Machine

/-! ### The accepting steps -/

/-- A command that sends a frame waits behind the frame in flight on an ACTIVE strip, starts its frame there when none
is, or raises a model fault in another LIFE. -/
theorem accept_frameStartIfIdle_cases {s t : State} {k : State → State} (hbusy : (k s).busy = s.busy)
    (h : accept s (fun s => whenActive s fun s => frameStartIfIdle (k s)) = .next t) :
    (s.life = .active ∧ s.busy = true ∧ t = k s)
      ∨ (s.life = .active ∧ s.busy = false ∧ t = frameStart (k s))
      ∨ (s.life ≠ .active ∧ ∃ r, t = raiseFault r s) := by
  obtain ⟨-, rfl⟩ := accept_next h
  rcases whenActive_cases s (fun s => frameStartIfIdle (k s)) with ⟨hlife, heq⟩ | ⟨hlife, r, heq⟩
  · cases hs : s.busy with
    | true => exact .inl ⟨hlife, rfl, heq.trans (frameStartIfIdle_busy (hbusy.trans hs))⟩
    | false => exact .inr (.inl ⟨hlife, rfl, heq.trans (frameStartIfIdle_idle (hbusy.trans hs))⟩)
  · exact .inr (.inr ⟨hlife, r, heq⟩)

theorem exec_refresh_cases {s t : State} (h : exec .refresh s = .next t) :
    (s.life = .active ∧ s.busy = true ∧ t = startTimer (startPending .refresh s))
      ∨ (s.life = .active ∧ s.busy = false ∧ t = frameStart (startTimer (startPending .refresh s)))
      ∨ (s.life ≠ .active ∧ ∃ r, t = raiseFault r s) :=
  accept_frameStartIfIdle_cases (k := fun s => startTimer (startPending .refresh s)) rfl h

theorem exec_clear_cases {s t : State} (h : exec .clear s = .next t) :
    (s.life = .active ∧ s.busy = true ∧ t = startTimer (startPending .clear (zeroBuffer s)))
      ∨ (s.life = .active ∧ s.busy = false ∧ t = frameStart (startTimer (startPending .clear (zeroBuffer s))))
      ∨ (s.life ≠ .active ∧ ∃ r, t = raiseFault r s) :=
  accept_frameStartIfIdle_cases (k := fun s => startTimer (startPending .clear (zeroBuffer s))) rfl h

theorem exec_refresh_active {s : State} (hready : portReady s = true) (hlife : s.life = .active) :
    exec .refresh s = .next (frameStartIfIdle (startTimer (startPending .refresh s))) := by
  rw [exec_ready hready, accepted, whenActive_active hlife, refreshCmd]

theorem exec_refresh_idle {s : State} (hready : portReady s = true) (hlife : s.life = .active)
    (hidle : s.busy = false) : exec .refresh s = .next (frameStart (startTimer (startPending .refresh s))) :=
  (exec_refresh_active hready hlife).trans (congrArg _ (frameStartIfIdle_idle hidle))

/-- Settles O24: behind a frame in flight REFRESH only waits. -/
theorem refreshWaitsForTheFrameInFlight : Obligations.RefreshWaitsForTheFrameInFlight := by
  unfold Obligations.RefreshWaitsForTheFrameInFlight
  intro s hready hlife hbusy
  exact (exec_refresh_active hready hlife).trans (congrArg _ (frameStartIfIdle_busy hbusy))

/-- Settles O26: both commands write the elements of a waiting command and of a frame start, CLEAR writes BUF besides,
and a fault writes FAULT alone. -/
theorem refreshAndClearFrame : Obligations.RefreshAndClearFrame := by
  unfold Obligations.RefreshAndClearFrame
  rintro s t i (rfl | rfl) - hexec
  · rcases exec_refresh_cases hexec with ⟨hlife, hbusy, rfl⟩ | ⟨hlife, hidle, rfl⟩ | ⟨hlife, r, rfl⟩
    · simp [SameConfiguration, SameWorld, SameFrame, SameBytes, hlife]
    · simp [SameConfiguration, SameWorld, SameBytes, hlife, hidle]
    · simp [SameConfiguration, SameWorld, SameFrame, SameBytes, hlife]
  · rcases exec_clear_cases hexec with ⟨hlife, hbusy, rfl⟩ | ⟨hlife, hidle, rfl⟩ | ⟨hlife, r, rfl⟩
    · simp [SameConfiguration, SameWorld, SameFrame, hlife, memRead_bufZero]
    · simp [SameConfiguration, SameWorld, hlife, hidle, memRead_bufZero]
    · simp [SameConfiguration, SameWorld, SameFrame, SameBytes, hlife]

/-! ### The frame start -/

theorem frameStartIn_items_length (order : ChannelOrder) {s : State} (hbuf : Memory.wf s.n s.buf) :
    (frameStartIn order s).items.length = emittedLength s.draws.grant.toNat s.n.toNat := by
  rw [frameStartIn_items, List.length_take, frameItems_length, hbuf, emittedLength]
  omega

/-- FLEN holds the emitted length without loss (spec/10_state.md R26). -/
theorem frameStartIn_flen_toNat (order : ChannelOrder) (s : State) :
    (frameStartIn order s).flen.toNat = emittedLength s.draws.grant.toNat s.n.toNat := by
  rw [frameStartIn_flen, BitVec.toNat_ofNat, Nat.mod_eq_of_lt (emittedLength_lt s.draws.grant.isLt _)]

/-- The items are the whole frame iff the grant covers it (R161, R162). -/
theorem frameStartIn_items_eq_iff (order : ChannelOrder) {s : State} (hbuf : Memory.wf s.n s.buf) :
    (frameStartIn order s).items = frameItems order s.ticks s.buf ↔ 24 * s.n.toNat + 2 ≤ s.draws.grant.toNat := by
  rw [frameStartIn_items, List.take_eq_self_iff, frameItems_length, hbuf, emittedLength, frameLength]
  omega

/-- Settles O30: the emitted length is the smaller of the grant and the frame's. -/
theorem grantDecidesTheEmittedPrefix : Obligations.GrantDecidesTheEmittedPrefix := by
  unfold Obligations.GrantDecidesTheEmittedPrefix
  intro order s hbuf
  have hlength := frameStartIn_items_length order hbuf
  have hshort : (frameStartIn order s).lastSf = true ↔ s.draws.grant.toNat < 24 * s.n.toNat + 2 :=
    shortfall_iff ..
  refine ⟨List.take_prefix .., hlength, (frameStartIn_flen_toNat order s).trans hlength.symm, ?_, hshort,
    fun hreference => ?_⟩
  · rw [hshort, Ne, frameStartIn_items_eq_iff order hbuf, Nat.not_le]
  · rw [← Bool.not_eq_true, hshort, hreference, referenceGrant, requestBytes]
    omega

/-- Settles O23: on an idle strip REFRESH starts its frame in the accepting step. -/
theorem refreshStartsAFrame : Obligations.RefreshStartsAFrame := by
  unfold Obligations.RefreshStartsAFrame
  intro s hready hlife hidle
  have hflen := frameStartIn_flen_toNat Config.channelOrder (startTimer (startPending .refresh s))
  refine ⟨_, exec_refresh_idle hready hlife hidle, rfl, hflen, ?_⟩
  exact congrArg (List.take · (frameItems Config.channelOrder s.ticks s.buf)) hflen.symm

/-- Settles O31: a frame without pixels is its two resets, which the grant covers. -/
theorem emptyStripSendsTwoResets : Obligations.EmptyStripSendsTwoResets := by
  unfold Obligations.EmptyStripSendsTwoResets
  refine ⟨rfl, fun s hready hlife hidle hn hbuf hgrant => ?_⟩
  have hwhole : (frameStart (startTimer (startPending .refresh s))).items = [resetItem s.ticks, resetItem s.ticks] := by
    rw [frameStart_items]
    simp [hn, hbuf, hgrant, frameItems, emittedLength, frameLength]
  refine ⟨_, exec_refresh_idle hready hlife hidle, hwhole, ?_, ?_, ?_⟩
  · simp [hn, requestBytes]
  · rw [hwhole, itemsTicks_cons, itemsTicks_reset, Nat.two_mul]
    exact congrArg (· + _) (Nat.zero_add _)
  · simp [hn, hgrant, shortfall, frameLength]

/-- Settles O27: the start's condition is an unstarted REFRESH or CLEAR on an idle ACTIVE strip, and its effect the
frame start. -/
theorem waitingFrameStarts : Obligations.WaitingFrameStarts := by
  unfold Obligations.WaitingFrameStarts
  intro s hfault
  refine ⟨⟨fun henabled => ?_, fun ⟨hlife, hidle, hpend⟩ => ?_⟩, fun _ => ⟨_, rfl, rfl⟩⟩
  · obtain ⟨hlife, hidle, op, hpend, hop⟩ := startCondition_cases (moveCondition_of_enabled henabled)
    cases op with
    | refresh => exact ⟨hlife, hidle, .inl hpend⟩
    | clear => exact ⟨hlife, hidle, .inr hpend⟩
    | release => exact absurd rfl hop
  · rw [moveEnabled_of_no_fault hfault]
    rcases hpend with hpend | hpend <;> simp [moveCondition, framePending, frameStarted, hlife, hidle, hpend]

end Sys2Proof.Machine
end

section
/-! PROOFS. The steps of TRANSPORT and TIMER: when each is enabled, what each does, and what a step may do to the wire
and to the timer (spec/42_refresh_encoder.md R161 to R171; spec/60_exceptions.md R231). -/

namespace Sys2Proof.Machine

/-! ### Emission -/

/-- While FPOS is short of FLEN an item is left (spec/10_state.md R26). -/
theorem Inv.item_left {s : State} (h : Inv s) (hleft : s.fpos < s.flen) :
    ∃ it, s.items[s.fpos.toNat]? = some it := by
  have hlt : s.fpos.toNat < s.items.length := h.framed.flen ▸ hleft
  exact ⟨_, List.getElem?_eq_getElem hlt⟩

theorem emitStep_of_item {s : State} {it : PulseItem} (h : s.items[s.fpos.toNat]? = some it) :
    emitStep s = .next (emitItem Config.channel it s) := by
  rw [emitStep, h]

theorem emitCondition_iff (timed isolated : Bool) (s : State) :
    moveCondition timed isolated s .emit = true ↔ s.busy = true ∧ s.fpos < s.flen := by
  simp [moveCondition]

/-- Settles O34: the invariant holds the item that is left and keeps the line low. -/
theorem emissionStep : Obligations.EmissionStep := by
  unfold Obligations.EmissionStep
  intro s hinv hfault
  have hiff := emitCondition_iff Config.timed Config.isolated s
  rw [moveEnabled_of_no_fault hfault]
  refine ⟨hiff, fun henabled => ?_⟩
  obtain ⟨-, hleft⟩ := hiff.1 henabled
  obtain ⟨it, hitem⟩ := hinv.item_left hleft
  obtain ⟨-, -, -, hadvance⟩ := framePositionNeverWraps s hinv
  refine ⟨it, _, hitem, emitStep_of_item hitem, hadvance hleft, ?_⟩
  simp [emitItem, drive, tickTimer, hinv.line]

/-! ### Completion -/

theorem completeCondition_iff (timed isolated : Bool) (s : State) :
    moveCondition timed isolated s .complete = true ↔ s.busy = true ∧ s.fpos = s.flen := by
  simp [moveCondition]

/-- Settles O36: completion answers where PEND holds a started REFRESH or CLEAR. -/
theorem completionStep : Obligations.CompletionStep := by
  unfold Obligations.CompletionStep
  intro s hfault
  refine ⟨?_, fun hpend => ?_, fun hpend => ?_, fun hnobody => ?_⟩
  · rw [moveEnabled_of_no_fault hfault, completeCondition_iff]
  · exact congrArg _ (completeStep_started hpend ((frameStarted_iff s).2 ⟨_, hpend, by decide, rfl⟩))
  · exact congrArg _ (completeStep_started hpend ((frameStarted_iff s).2 ⟨_, hpend, by decide, rfl⟩))
  · have hunstarted : frameStarted s = false := by
      rcases hnobody with hpend | ⟨op, hpend⟩ | ⟨st, hpend⟩ <;> simp [frameStarted, hpend]
    exact congrArg _ (completeStep_unstarted hunstarted)

/-! ### The timeout -/

theorem PendOp.ne_release_iff (op : PendOp) : op ≠ .release ↔ op = .refresh ∨ op = .clear := by
  cases op <;> decide

theorem timeoutCondition_iff (timed : Bool) (s : State) :
    timeoutCondition timed s = true ↔ (timed = true → deadline s ≤ s.elapsed) := by
  cases timed <;> simp [timeoutCondition]

/-- Settles O38: TIMER's condition part by part, and its answer for REFRESH and CLEAR. -/
theorem timeoutStep_spec : Obligations.TimeoutStep := by
  unfold Obligations.TimeoutStep
  intro s hfault
  refine ⟨fun timed isolated => ?_, fun st hpend => ?_, fun st hpend => ?_⟩
  · rw [moveEnabled_of_no_fault hfault, moveCondition, Bool.and_eq_true, Bool.and_eq_true, framePending_iff,
      timeoutCondition_iff, and_assoc]
    simp only [PendOp.ne_release_iff]
    rfl
  · exact congrArg _ (timeoutStep_some hpend)
  · exact congrArg _ (timeoutStep_some hpend)

/-! ### The wire -/

/-- No command puts anything on the wire: TRANSPORT alone drives the line. -/
theorem commandEffect_wire (i : Instr) (s : State) : (commandEffect i s).wire = s.wire := by
  cases i with
  | configure variant div count clkHz =>
    rcases configureWith_cases variant div count clkHz s with ⟨-, heq⟩ | ⟨-, heq⟩ <;> simp [commandEffect, heq]
  | setPixel index r g b =>
    rcases setPixelCmd_cases index r g b s with ⟨-, heq⟩ | ⟨-, heq⟩ <;> simp [commandEffect, heq]
  | refresh => rcases refreshCmd_cases s with heq | heq <;> simp [commandEffect, heq]
  | clear => rcases clearCmd_cases s with heq | heq <;> simp [commandEffect, heq]
  | release =>
    cases hbusy : s.busy with
    | true => simp [commandEffect, releaseCmd_busy hbusy]
    | false => simp [commandEffect, releaseCmd_idle hbusy]

/-- Settles O35: only an emission and a gap drive the line. -/
theorem onlyFrameItemsAndGapsReachTheWire : Obligations.OnlyFrameItemsAndGapsReachTheWire := by
  unfold Obligations.OnlyFrameItemsAndGapsReachTheWire
  intro s t hstep
  rcases step_effect hstep with rfl | ⟨u, he, rfl⟩
  · exact .inl rfl
  cases he with
  | command w rest i hhost hready hdecode hlife => exact .inl (commandEffect_wire i { s with host := rest })
  | emit it hbusy hleft hitem => exact .inr (.inl ⟨hbusy, hleft, rfl, it, hitem, rfl⟩)
  | gap hbusy hbegun hleft hgaps hisolated =>
    exact .inr (.inr ⟨hisolated, hbusy, hbegun, hleft, by simp, s.draws.gapTicks + 1, by omega, by simp⟩)
  | complete hbusy hout => exact .inl (by rw [completeStep_eq]; rfl)
  | _ => exact .inl rfl

/-! ### The timer -/

theorem framePending_of_none {s : State} (h : s.pend = none) : framePending s = false := by
  rw [framePending, h]

theorem framePending_of_some {s : State} {p : Pending} (h : s.pend = some p) (hop : p.op ≠ .release) :
    framePending s = true :=
  (framePending_iff s).2 ⟨p, h, hop⟩

/-- A ready port has no command pending (spec/30_encoding.md R70). -/
theorem pend_none_of_portReady {s : State} (h : portReady s = true) : s.pend = none := ((portReady_iff s).1 h).1

/-- A command starts the timer, or leaves it and no REFRESH or CLEAR pending. -/
theorem commandEffect_timer (i : Instr) (s : State) :
    (commandEffect i s).elapsed = 0
      ∨ ((commandEffect i s).elapsed = s.elapsed ∧ framePending (commandEffect i s) = false) := by
  cases i with
  | configure variant div count clkHz =>
    right
    rcases configureWith_cases variant div count clkHz s with ⟨-, heq⟩ | ⟨-, heq⟩ <;>
      simp [commandEffect, heq, framePending]
  | setPixel index r g b =>
    right
    rcases setPixelCmd_cases index r g b s with ⟨-, heq⟩ | ⟨-, heq⟩ <;> simp [commandEffect, heq, framePending]
  | refresh => exact .inl (by rcases refreshCmd_cases s with heq | heq <;> simp [commandEffect, heq])
  | clear => exact .inl (by rcases clearCmd_cases s with heq | heq <;> simp [commandEffect, heq])
  | release =>
    right
    cases hbusy : s.busy with
    | true => simp [commandEffect, releaseCmd_busy hbusy, framePending]
    | false => simp [commandEffect, releaseCmd_idle hbusy, framePending]

/-- With no REFRESH or CLEAR pending a step sets the timer to 0, or leaves it and still none pending (R231). -/
theorem StepEffect.timer_stopped {s u : State} (he : StepEffect s u) (hs : framePending s = false) :
    u.elapsed = 0 ∨ (u.elapsed = s.elapsed ∧ framePending u = false) := by
  cases he with
  | command w rest i hhost hready hdecode hlife =>
    exact commandEffect_timer i { s with host := rest }
  | start op hlife hidle hpend hop => simp [framePending_of_some hpend hop] at hs
  | timeout p hbusy hpend hop hdue => simp [framePending_of_some hpend hop] at hs
  | emit it hbusy hleft hitem => exact .inr ⟨by simp [hs], hs⟩
  | gap hbusy hbegun hleft hgaps hisolated => exact .inr ⟨by simp [hs], hs⟩
  | complete hbusy hout =>
    right
    rcases completeStep_cases s with ⟨p, -, -, heq⟩ | ⟨-, heq⟩
    · exact heq ▸ ⟨rfl, rfl⟩
    · exact heq ▸ ⟨rfl, hs⟩
  | blockReset hdue => exact .inl rfl
  | fault | readResponse | readRegister => exact .inr ⟨rfl, hs⟩
  | illegal | release => exact .inr ⟨rfl, rfl⟩

/-- While a REFRESH or CLEAR stays pending the timer counts the ticks of what joins the wire (R169). -/
theorem StepEffect.timer_runs {s u : State} (he : StepEffect s u) (hs : framePending s = true)
    (hu : framePending u = true) : ∃ new, u.wire = s.wire ++ new ∧ u.elapsed = s.elapsed + (new.map wireTicks).sum := by
  have hsilent (hwire : u.wire = s.wire) (helapsed : u.elapsed = s.elapsed) :
      ∃ new, u.wire = s.wire ++ new ∧ u.elapsed = s.elapsed + (new.map wireTicks).sum :=
    ⟨[], by simp [hwire], by simp [helapsed]⟩
  cases he with
  | command w rest i hhost hready => simp [framePending_of_none (pend_none_of_portReady hready)] at hs
  | emit it hbusy hleft hitem => exact ⟨_, rfl, by simp [hs, wireTicks, itemTicks]⟩
  | gap hbusy hbegun hleft hgaps hisolated => exact ⟨_, rfl, by simp [hs, wireTicks]⟩
  | complete hbusy hout => exact hsilent (by rw [completeStep_eq]) (by rw [completeStep_eq])
  | blockReset hdue => cases hu
  | _ => exact hsilent rfl rfl

/-- Settles O39: a step counts what joins the wire, or the timer is at rest. -/
theorem timerCountsTheWire : Obligations.TimerCountsTheWire := by
  unfold Obligations.TimerCountsTheWire
  intro s t _ hstep
  rcases step_effect hstep with rfl | ⟨u, he, rfl⟩
  · exact ⟨fun _ _ => ⟨[], by simp⟩, fun _ => .inl rfl, fun hs ht => by simp [hs] at ht⟩
  refine ⟨fun hs hu => he.timer_runs hs hu, fun hs => ?_, fun hs hu => ?_⟩
  · rcases he.timer_stopped hs with hzero | ⟨hkept, -⟩
    · exact .inr hzero
    · exact .inl hkept
  · rcases he.timer_stopped hs with hzero | ⟨-, hnone⟩
    · exact hzero
    · exact Bool.noConfusion (hnone.symm.trans hu)

/-! ### The OK response -/

theorem codeBits_inj {a b : ResultCode} : codeBits a = codeBits b ↔ a = b := by
  cases a <;> cases b <;> decide

/-- A response word tells its code, its shortfall flag and its opcode (spec/30_encoding.md R80). -/
theorem responseWord_inj {code code' : ResultCode} {sf sf' : Bool} {ope ope' : BitVec 4} :
    responseWord code sf ope = responseWord code' sf' ope' ↔ code = code' ∧ sf = sf' ∧ ope = ope' := by
  refine ⟨fun h => ?_, fun ⟨hcode, hsf, hope⟩ => hcode ▸ hsf ▸ hope ▸ rfl⟩
  obtain ⟨hcode, hsf, -, hope, -⟩ := responseWordFields code sf ope
  obtain ⟨hcode', hsf', -, hope', -⟩ := responseWordFields code' sf' ope'
  rw [h] at hcode hsf hope
  exact ⟨codeBits_inj.1 (hcode.symm.trans hcode'), hsf.symm.trans hsf', hope.symm.trans hope'⟩

/-- A command answers in its accepting step with its own opcode, or not at all; REFRESH and CLEAR do not. -/
theorem commandEffect_resp (i : Instr) (s : State) :
    (commandEffect i s).resp = s.resp
      ∨ (i.opcode ≠ 3 ∧ i.opcode ≠ 4
        ∧ ∃ code sf, (commandEffect i s).resp = some (responseWord code sf i.opcode)) := by
  cases i with
  | configure variant div count clkHz =>
    refine .inr ⟨by simp [Instr.opcode], by simp [Instr.opcode], ?_⟩
    rcases configureWith_cases variant div count clkHz s with ⟨-, heq⟩ | ⟨-, heq⟩ <;>
      exact ⟨_, _, by rw [commandEffect, heq]; rfl⟩
  | setPixel index r g b =>
    refine .inr ⟨by simp [Instr.opcode], by simp [Instr.opcode], ?_⟩
    rcases setPixelCmd_cases index r g b s with ⟨-, heq⟩ | ⟨-, heq⟩ <;>
      exact ⟨_, _, by rw [commandEffect, heq]; rfl⟩
  | refresh => exact .inl (by rcases refreshCmd_cases s with heq | heq <;> simp [commandEffect, heq])
  | clear => exact .inl (by rcases clearCmd_cases s with heq | heq <;> simp [commandEffect, heq])
  | release =>
    cases hbusy : s.busy with
    | true => exact .inl (by simp [commandEffect, releaseCmd_busy hbusy])
    | false =>
      exact .inr ⟨by decide, by decide, _, _, by rw [commandEffect, releaseCmd_idle hbusy]; rfl⟩

/-- A started command's record says so, and that it sends a frame. -/
theorem started_of_frameStarted {s : State} {p : Pending} (hpend : s.pend = some p) (h : frameStarted s = true) :
    p.op ≠ .release ∧ p.started = true := by
  obtain ⟨p', hpend', hop, hst⟩ := (frameStarted_iff s).1 h
  obtain rfl : p = p' := Option.some.inj (hpend.symm.trans hpend')
  exact ⟨hop, hst⟩

/-- The OK answer of a REFRESH or CLEAR is the completion of its own frame (R167). -/
theorem StepEffect.ok_response {s u : State} {sf : Bool} {ope : BitVec 4} (he : StepEffect s u)
    (hnone : s.resp = none) (hok : u.resp = some (responseWord .ok sf ope)) (hope : ope = 3 ∨ ope = 4) :
    s.busy = true ∧ s.fpos = s.flen ∧ sf = s.lastSf
      ∧ ∃ op, s.pend = some ⟨op, true⟩ ∧ ope = pendOpcode op
        ∧ u = respond .ok s.lastSf (pendOpcode op) { s with busy := false, line := .low } := by
  cases he with
  | command w rest i hhost hready hdecode hlife =>
    rcases commandEffect_resp i { s with host := rest } with hkept | ⟨h3, h4, code, sf', hanswer⟩
    · cases hnone.symm.trans (hkept.symm.trans hok)
    · obtain ⟨-, -, rfl⟩ := responseWord_inj.1 (Option.some.inj (hanswer.symm.trans hok))
      exact absurd hope (not_or.2 ⟨h3, h4⟩)
  | complete hbusy hout =>
    rcases completeStep_cases s with ⟨⟨op, st⟩, hpend, hstarted, heq⟩ | ⟨-, heq⟩
    · obtain ⟨-, rfl⟩ := started_of_frameStarted hpend hstarted
      rw [heq] at hok
      obtain ⟨-, rfl, rfl⟩ := responseWord_inj.1 (Option.some.inj hok)
      exact ⟨hbusy, hout, rfl, op, hpend, rfl, heq⟩
    · simp [heq, hnone] at hok
  | release st hidle hpend =>
    obtain ⟨-, -, rfl⟩ := responseWord_inj.1 (Option.some.inj hok)
    exact absurd hope (by decide)
  | illegal w rest hhost hready hdecode hlife => simp [responseWord_inj] at hok
  | timeout p hbusy hpend hop hdue => simp [responseWord_inj] at hok
  | _ => simp [hnone] at hok

/-- Settles O37: the answer is the completion's, which waits for all items of the frame. -/
theorem okResponseMeansTheFrameIsOut : Obligations.OkResponseMeansTheFrameIsOut := by
  unfold Obligations.OkResponseMeansTheFrameIsOut
  intro s t sf ope hinv hstep hnone hok hope
  rcases step_effect hstep with rfl | ⟨u, he, rfl⟩
  · simp [hnone] at hok
  obtain ⟨hbusy, hout, rfl, op, hpend, rfl, rfl⟩ := he.ok_response hnone hok hope
  obtain ⟨-, -, hshort⟩ := hinv.framed.busy hbusy
  refine ⟨hout, rfl, rfl, rfl, rfl, hshort, ?_⟩
  cases op with
  | refresh => exact hpend
  | clear => exact hpend
  | release => exact absurd hope (by decide)

end Sys2Proof.Machine
end

section
/-! PROOFS. With HOST silent a frame in flight goes out whole, whoever moves when (spec/42_refresh_encoder.md R164 to
R170): every step makes progress on the frame or completes it, and the progress a frame can make is bounded. -/

namespace Sys2Proof.Machine

/-! ### A frame in flight and a silent HOST -/

/-- A frame is in flight, nobody waits behind it, and nothing comes from outside. -/
structure InFlightAlone (s : State) : Prop where
  inv : Inv s
  fault : s.fault = none
  busy : s.busy = true
  host : s.host = []
  resets : s.resets = 0
  pend : s.pend = none ∨ frameStarted s = true

/-- The steps a frame can still take before its completion: emissions, gaps and one timeout (log entry 7). -/
def stepsLeft (s : State) : Nat :=
  (s.flen.toNat - s.fpos.toNat) + s.gapsLeft + s.pend.isSome.toNat

/-- The command is as pending as it was, or has been answered OK or TransmissionTimeout with its frame's shortfall. -/
def Answered (s t : State) : Prop :=
  (t.pend = s.pend ∧ t.resp = s.resp)
    ∨ ∃ p, s.pend = some p ∧ t.pend = none
      ∧ (t.resp = some (responseWord .ok s.lastSf (pendOpcode p.op))
        ∨ t.resp = some (responseWord .transmissionTimeout s.lastSf (pendOpcode p.op)))

/-- `t` continues the frame of `s`: the frame is the same, and what joined the wire are the next of its items, with gaps
between. -/
structure Continues (s t : State) : Prop where
  snap : t.snap = s.snap
  items : t.items = s.items
  flen : t.flen = s.flen
  lastSf : t.lastSf = s.lastSf
  buf : t.buf = s.buf
  wire : ∃ new, t.wire = s.wire ++ new
    ∧ s.items.drop s.fpos.toNat = wireItems new ++ t.items.drop t.fpos.toNat
  answer : Answered s t

theorem wireItems_append (l l' : List WireEvent) : wireItems (l ++ l') = wireItems l ++ wireItems l' :=
  List.filterMap_append ..

theorem Continues.trans {s t u : State} (hst : Continues s t) (htu : Continues t u) : Continues s u where
  snap := htu.snap.trans hst.snap
  items := htu.items.trans hst.items
  flen := htu.flen.trans hst.flen
  lastSf := htu.lastSf.trans hst.lastSf
  buf := htu.buf.trans hst.buf
  wire := by
    obtain ⟨new, hwire, hitems⟩ := hst.wire
    obtain ⟨new', hwire', hitems'⟩ := htu.wire
    refine ⟨new ++ new', by rw [hwire', hwire, List.append_assoc], ?_⟩
    rw [hitems, hitems', wireItems_append, List.append_assoc]
  answer := by
    rcases htu.answer with ⟨hpend, hresp⟩ | ⟨p, hpend, hnone, hresp⟩
    · rw [Answered, hpend, hresp]
      exact hst.answer
    · rcases hst.answer with ⟨hpend', -⟩ | ⟨-, -, hnone', -⟩
      · rw [hst.lastSf] at hresp
        exact .inr ⟨p, hpend'.symm.trans hpend, hnone, hresp⟩
      · cases hnone'.symm.trans hpend

/-- A step that leaves the framer, BUF and the wire as they are continues the frame. -/
theorem Continues.of_answer {s t : State} (hframe : SameFrame s t) (hbuf : t.buf = s.buf)
    (hwire : t.wire = s.wire) (hanswer : Answered s t) : Continues s t := by
  obtain ⟨hsnap, hitems, hfpos, hflen, -, -, hsf, -⟩ := hframe
  exact ⟨hsnap, hitems, hflen, hsf, hbuf, ⟨[], by simp [hwire], by simp [hitems, hfpos, wireItems]⟩, hanswer⟩

/-! ### Every step makes progress -/

/-- An item is left or all are out, so TRANSPORT has a step. -/
theorem InFlightAlone.transport_enabled {s : State} (h : InFlightAlone s) (timed isolated : Bool) :
    ∃ m, moveEnabled timed isolated s m = true := by
  simp only [moveEnabled_of_no_fault h.fault]
  by_cases hout : s.fpos = s.flen
  · exact ⟨.complete, (completeCondition_iff ..).2 ⟨h.busy, hout⟩⟩
  · exact ⟨.emit, (emitCondition_iff ..).2 ⟨h.busy, BitVec.lt_of_le_ne h.inv.framed.fpos hout⟩⟩

/-- No agent's step but HOST's stops under the invariant. -/
theorem Inv.runMove_next {s : State} {m : Move} {timed isolated : Bool} (h : Inv s) (hm : m ≠ .host)
    (hc : moveCondition timed isolated s m = true) : ∃ u, runMove m s = .next u := by
  cases m with
  | host => exact absurd rfl hm
  | emit =>
    obtain ⟨it, hitem⟩ := h.item_left ((emitCondition_iff ..).1 hc).2
    exact ⟨_, emitStep_of_item hitem⟩
  | _ => exact ⟨_, rfl⟩

/-- A silent HOST has no step, so a frame in flight is never stuck. -/
theorem InFlightAlone.step_next {s : State} (h : InFlightAlone s) :
    ∃ u, StepEffect s u ∧ step s = .next (freshDraws u) := by
  obtain ⟨m₀, henabled⟩ := h.transport_enabled Config.timed Config.isolated
  cases hchosen : chosenMove Config.timed Config.isolated s with
  | none => cases henabled.symm.trans (chosenMove_none hchosen m₀)
  | some m =>
    have hc := moveCondition_of_enabled (chosenMove_enabled hchosen)
    have hm : m ≠ .host := by
      rintro rfl
      simp [moveCondition, hostEnabled, h.host] at hc
    obtain ⟨u, hu⟩ := h.inv.runMove_next hm hc
    exact ⟨u, runMove_effect hc hu, by rw [step, stepWith_chosen hchosen, hu, thenFresh]⟩

/-- An emission puts the next item on the wire, and there is one item less to send. -/
theorem InFlightAlone.emit {s : State} {it : PulseItem} (h : InFlightAlone s) (hleft : s.fpos < s.flen)
    (hitem : s.items[s.fpos.toNat]? = some it) :
    Continues s (emitItem Config.channel it s) ∧ stepsLeft (emitItem Config.channel it s) < stepsLeft s := by
  obtain ⟨-, -, -, hadvance⟩ := framePositionNeverWraps s h.inv
  have hnext := hadvance hleft
  have hlt : s.fpos.toNat < s.flen.toNat := hleft
  constructor
  · obtain ⟨hlt, hget⟩ := List.getElem?_eq_some_iff.1 hitem
    refine ⟨emitItem_snap .., emitItem_items .., emitItem_flen .., emitItem_lastSf .., emitItem_buf ..,
      ⟨_, emitItem_wire .., ?_⟩, .inl ⟨emitItem_pend .., emitItem_resp ..⟩⟩
    rw [List.drop_eq_getElem_cons hlt, hget, emitItem_items, emitItem_fpos, hnext]
    rfl
  · simp only [stepsLeft, emitItem_flen, emitItem_fpos, emitItem_gapsLeft, emitItem_pend, hnext]
    omega

/-- A gap puts no item on the wire, and there is one gap less to come (log entry 7). -/
theorem gapStep_progress {s : State} (hgaps : 0 < s.gapsLeft) :
    Continues s (gapStep s) ∧ stepsLeft (gapStep s) < stepsLeft s := by
  constructor
  · refine ⟨gapStep_snap s, gapStep_items s, gapStep_flen s, gapStep_lastSf s, gapStep_buf s,
      ⟨_, gapStep_wire s, ?_⟩, .inl ⟨gapStep_pend s, gapStep_resp s⟩⟩
    rw [gapStep_items, gapStep_fpos]
    rfl
  · simp only [stepsLeft, gapStep_flen, gapStep_fpos, gapStep_gapsLeft, gapStep_pend]
    omega

/-- Completion ends the frame and answers the command that waits for it. -/
theorem InFlightAlone.complete {s : State} (h : InFlightAlone s) :
    Continues s (completeStep s) ∧ (completeStep s).busy = false ∧ (completeStep s).pend = none := by
  rcases completeStep_cases s with ⟨p, hpend, -, heq⟩ | ⟨hunstarted, heq⟩
  · rw [heq]
    exact ⟨.of_answer (by simp [SameFrame]) rfl rfl (.inr ⟨p, hpend, rfl, .inl rfl⟩), rfl, rfl⟩
  · rw [heq]
    exact ⟨.of_answer (by simp [SameFrame]) rfl rfl (.inl ⟨rfl, rfl⟩), rfl, h.pend.resolve_right (by simp [hunstarted])⟩

/-- A timeout answers the command and lets the frame go on (R170). -/
theorem InFlightAlone.timeout {s : State} {p : Pending} (h : InFlightAlone s) (hpend : s.pend = some p) :
    Continues s (respond .transmissionTimeout (p.started && s.lastSf) (pendOpcode p.op) s)
      ∧ stepsLeft (respond .transmissionTimeout (p.started && s.lastSf) (pendOpcode p.op) s) < stepsLeft s := by
  obtain ⟨-, hst⟩ := started_of_frameStarted hpend (h.pend.resolve_left (by simp [hpend]))
  constructor
  · refine .of_answer (by simp [SameFrame]) rfl rfl (.inr ⟨p, hpend, rfl, .inr ?_⟩)
    rw [hst, Bool.true_and, respond_resp]
  · simp [stepsLeft, hpend]

/-- A step that keeps what the frame is alone with leaves it alone. -/
theorem InFlightAlone.keep {s t : State} (h : InFlightAlone s) (hinv : Inv t) (hfault : t.fault = s.fault)
    (hbusy : t.busy = s.busy) (hhost : t.host = s.host) (hresets : t.resets = s.resets) (hpend : t.pend = s.pend) :
    InFlightAlone t :=
  ⟨hinv, hfault.trans h.fault, hbusy.trans h.busy, hhost.trans h.host, hresets.trans h.resets, by
    rw [frameStarted, hpend]
    exact h.pend⟩

/-- Each step goes on with the frame, with fewer steps left, or completes it. -/
theorem InFlightAlone.progress {s u : State} (h : InFlightAlone s) (he : StepEffect s u) :
    Continues s u ∧ ((u.busy = false ∧ u.pend = none ∧ u.fpos = u.flen)
      ∨ (InFlightAlone u ∧ stepsLeft u < stepsLeft s)) := by
  have hinv : Inv u := he.inv h.inv
  cases he with
  | emit it hbusy hleft hitem =>
    obtain ⟨hcontinues, hless⟩ := h.emit hleft hitem
    exact ⟨hcontinues, .inr ⟨h.keep hinv (emitItem_fault ..) (emitItem_busy ..) (emitItem_host ..) (emitItem_resets ..)
      (emitItem_pend ..), hless⟩⟩
  | gap hbusy hbegun hleft hgaps hisolated =>
    obtain ⟨hcontinues, hless⟩ := gapStep_progress hgaps
    exact ⟨hcontinues, .inr ⟨h.keep hinv (gapStep_fault s) (gapStep_busy s) (gapStep_host s) (gapStep_resets s)
      (gapStep_pend s), hless⟩⟩
  | complete hbusy hout =>
    obtain ⟨hcontinues, hidle, hnone⟩ := h.complete
    exact ⟨hcontinues, .inl ⟨hidle, hnone, by rw [completeStep_eq]; exact hout⟩⟩
  | timeout p hbusy hpend hop hdue =>
    obtain ⟨hcontinues, hless⟩ := h.timeout hpend
    exact ⟨hcontinues, .inr ⟨⟨hinv, h.fault, h.busy, h.host, h.resets, .inl rfl⟩, hless⟩⟩
  | fault w rest r hhost => cases h.host.symm.trans hhost
  | command w rest i hhost => cases h.host.symm.trans hhost
  | illegal w rest hhost => cases h.host.symm.trans hhost
  | readResponse rest w hhost => cases h.host.symm.trans hhost
  | readRegister sel rest hhost => cases h.host.symm.trans hhost
  | start op hlife hidle => cases h.busy.symm.trans hidle
  | release st hidle => cases h.busy.symm.trans hidle
  | blockReset hdue => exact absurd h.resets (by omega)

/-! ### The frame completes -/

/-- Fresh draws belong to no frame. -/
theorem Continues.freshDraws {s u : State} (h : Continues s u) : Continues s (freshDraws u) :=
  ⟨h.snap, h.items, h.flen, h.lastSf, h.buf, h.wire, h.answer⟩

theorem InFlightAlone.freshDraws {s : State} (h : InFlightAlone s) : InFlightAlone (freshDraws s) :=
  ⟨h.inv.outside .., h.fault, h.busy, h.host, h.resets, h.pend⟩

theorem run_succ {M : Host.Core} {s u : M.State} (h : M.step s = .next u) (k : Nat) : M.run (k + 1) s = M.run k u := by
  rw [Host.Core.run, h]

/-- A frame in flight completes one step after its last progress. -/
theorem InFlightAlone.completes {s : State} (h : InFlightAlone s) :
    ∃ (k : Nat) (t : State), k ≤ stepsLeft s + 1 ∧ core.run k s = .next t ∧ Continues s t
      ∧ t.busy = false ∧ t.pend = none ∧ t.fpos = t.flen := by
  obtain ⟨u, he, hstep⟩ := h.step_next
  rcases h.progress he with ⟨hcontinues, hdone | ⟨halone, hless⟩⟩
  · exact ⟨1, Machine.freshDraws u, by omega, run_succ (M := core) hstep 0, hcontinues.freshDraws, hdone⟩
  · obtain ⟨k, t, hk, hrun, hrest, hdone⟩ := halone.freshDraws.completes
    have hleft : stepsLeft (Machine.freshDraws u) = stepsLeft u := rfl
    exact ⟨k + 1, t, by omega, (run_succ (M := core) hstep k).trans hrun, hcontinues.freshDraws.trans hrest, hdone⟩
termination_by stepsLeft s
decreasing_by exact hless

/-- Settles O40: at completion no item is left, and who was pending has been answered. -/
theorem frameInFlightAlwaysCompletes : Obligations.FrameInFlightAlwaysCompletes := by
  unfold Obligations.FrameInFlightAlwaysCompletes
  intro s hinv hfault hbusy hhost hresets hpend
  obtain ⟨k, t, hk, hrun, hcontinues, hidle, hnone, hout⟩ :=
    (InFlightAlone.mk hinv hfault hbusy hhost hresets hpend).completes
  obtain ⟨hsnap, hitems, hflen, -, hbuf, ⟨new, hwire, hsent⟩, hanswer⟩ := hcontinues
  have hone := s.pend.isSome.toNat_le
  rw [stepsLeft] at hk
  refine ⟨k, t, by omega, hrun, hidle, hnone, hout.trans hflen, hsnap, hitems, hbuf, ⟨new, hwire, ?_⟩,
    fun p hp => ?_, fun hs => ?_⟩
  · rw [hsent, hout, hflen, hitems, hinv.framed.flen, List.drop_length, List.append_nil]
  · rcases hanswer with ⟨hkept, -⟩ | ⟨p', hp', -, hresp⟩
    · cases (hkept.symm.trans hnone).symm.trans hp
    · cases hp.symm.trans hp'
      exact hresp
  · rcases hanswer with ⟨-, hkept⟩ | ⟨p, hp, -⟩
    · exact hkept
    · cases hs.symm.trans hp

end Sys2Proof.Machine
end

section
/-! PROOFS. CLEAR's completion, and RELEASE: what its accepting step does, said once, and from that its completion, its
frame, the release that waits and the released strip (spec/43_clear_release.md R200 to R204). -/

namespace Sys2Proof.Machine

/-! ### CLEAR's completion -/

theorem exec_clear_active {s : State} (hready : portReady s = true) (hlife : s.life = .active) :
    exec .clear s = .next (frameStartIfIdle (startTimer (startPending .clear (zeroBuffer s)))) := by
  rw [exec_ready hready, accepted, whenActive_active hlife, clearCmd]

theorem exec_clear_busy {s : State} (hready : portReady s = true) (hlife : s.life = .active) (hbusy : s.busy = true) :
    exec .clear s = .next (startTimer (startPending .clear (zeroBuffer s))) :=
  (exec_clear_active hready hlife).trans (congrArg _ (frameStartIfIdle_busy hbusy))

theorem exec_clear_idle {s : State} (hready : portReady s = true) (hlife : s.life = .active) (hidle : s.busy = false) :
    exec .clear s = .next (frameStart (startTimer (startPending .clear (zeroBuffer s)))) :=
  (exec_clear_active hready hlife).trans (congrArg _ (frameStartIfIdle_idle hidle))

/-- Settles O25: BUF is zeroed whether or not a frame is in flight; only an idle strip starts CLEAR's own. -/
theorem clearZeroesThenSends : Obligations.ClearZeroesThenSends := by
  unfold Obligations.ClearZeroesThenSends
  intro s hready hlife
  rcases Bool.eq_false_or_eq_true s.busy with hbusy | hidle
  · exact ⟨_, exec_clear_busy hready hlife hbusy, rfl, rfl, fun hidle => by simp [hbusy] at hidle, fun _ => rfl⟩
  · exact ⟨_, exec_clear_idle hready hlife hidle, rfl, rfl, fun _ => rfl, fun hbusy => by simp [hidle] at hbusy⟩

/-! ### RELEASE's accepting step -/

theorem exec_release_busy {s : State} (hready : portReady s = true) (hlife : s.life = .active)
    (hbusy : s.busy = true) : exec .release s = .next (startPending .release s) := by
  rw [exec_ready hready, accepted, whenActive_active hlife, releaseCmd_busy hbusy]

/-- On an idle strip PEND holds RELEASE only within its accepting step. -/
theorem exec_release_idle {s : State} (hready : portReady s = true) (hlife : s.life = .active)
    (hidle : s.busy = false) : exec .release s = .next (releaseNow s) := by
  rw [exec_ready hready, accepted, whenActive_active hlife, releaseCmd_idle hidle]
  rfl

/-- RELEASE waits behind the frame in flight on an ACTIVE strip, frees the strip when none is, or raises a model fault
in another LIFE. -/
theorem exec_release_cases {s t : State} (h : exec .release s = .next t) :
    (s.life = .active ∧ s.busy = true ∧ t = startPending .release s)
      ∨ (s.life = .active ∧ s.busy = false ∧ t = releaseNow s)
      ∨ (s.life ≠ .active ∧ ∃ r, t = raiseFault r s) := by
  obtain ⟨-, rfl⟩ := exec_next h
  rcases whenActive_cases s releaseCmd with ⟨hlife, heq⟩ | ⟨hlife, r, heq⟩
  · cases hs : s.busy with
    | true => exact .inl ⟨hlife, rfl, heq.trans (releaseCmd_busy hs)⟩
    | false => exact .inr (.inl ⟨hlife, rfl, heq.trans (releaseCmd_idle hs)⟩)
  · exact .inr (.inr ⟨hlife, r, heq⟩)

/-! ### RELEASE's completion and frame -/

/-- A ready port has no command pending, so the release leaves PEND as it is. -/
theorem releaseNow_of_portReady {s : State} (hready : portReady s = true) :
    releaseNow s = { freeStrip s with resp := some (responseWord .ok false 0x5) } :=
  respond_of_portReady (s := freeStrip s) hready _ _ _

/-- Settles O42: RELEASE waits behind a frame in flight and frees an idle strip. -/
theorem releaseFreesOrWaits : Obligations.ReleaseFreesOrWaits := by
  unfold Obligations.ReleaseFreesOrWaits
  intro s hready hlife
  refine ⟨fun hidle => ?_, exec_release_busy hready hlife⟩
  rw [exec_release_idle hready hlife hidle, releaseNow_of_portReady hready]
  rfl

/-- Settles O44: a RELEASE that waits writes PEND alone, a fault FAULT alone, and the release empties BUF. -/
theorem releaseFrame : Obligations.ReleaseFrame := by
  unfold Obligations.ReleaseFrame
  intro s t hexec
  rcases exec_release_cases hexec with ⟨hlife, hbusy, rfl⟩ | ⟨hlife, hidle, rfl⟩ | ⟨hlife, r, rfl⟩
  · simp [SameWorld, SameConfiguration, SameFrame, SameBytes, hlife, hbusy]
  · simp [SameWorld, hlife, hidle, memRead_eq_none_iff]
  · simp [SameWorld, SameConfiguration, SameFrame, SameBytes, hlife]

/-! ### The release that waits -/

/-- TIMER does not watch a RELEASE (spec/43_clear_release.md R203). -/
theorem framePending_of_release {s : State} {st : Bool} (h : s.pend = some ⟨.release, st⟩) :
    framePending s = false := by
  simp [framePending, h]

/-- Settles O43: the release's condition is that no frame is in flight, TIMER's that a REFRESH or CLEAR is pending. -/
theorem waitingReleaseRunsWhenIdle : Obligations.WaitingReleaseRunsWhenIdle := by
  unfold Obligations.WaitingReleaseRunsWhenIdle
  intro s st hfault hpend
  refine ⟨?_, ?_, rfl⟩
  · rw [moveEnabled_of_no_fault hfault]
    simp [moveCondition, releasePending, hpend]
  · rw [moveEnabled_of_no_fault hfault]
    simp [moveCondition, framePending_of_release hpend]

/-! ### The released strip -/

/-- Nothing reaches the wire while no frame is in flight. -/
theorem step_keeps_wire_of_idle {s t : State} (h : step s = .next t) (hidle : s.busy = false) : t.wire = s.wire := by
  rcases onlyFrameItemsAndGapsReachTheWire s t h with hkept | ⟨hbusy, -⟩ | ⟨-, hbusy, -⟩
  · exact hkept
  · simp [hidle] at hbusy
  · simp [hidle] at hbusy

/-- A released strip stays released but for a block reset: the other moves of LIFE leave UNCONFIGURED or ACTIVE. -/
theorem step_keeps_released {s t : State} (hinv : Inv s) (hlife : s.life = .released) (h : step s = .next t) :
    t.life = .released ∨ (t.life = .unconfigured ∧ t.resets + 1 = s.resets) := by
  rcases lifeTransitions s t hinv h with hkept | ⟨hfrom, -⟩ | ⟨hfrom, -⟩ | hreset
  · exact .inl (hkept.trans hlife)
  · simp [hlife] at hfrom
  · simp [hlife] at hfrom
  · exact .inr hreset

/-- Settles O45: a released strip has no frame in flight, so the wire is kept, and the invariant keeps the line low. -/
theorem releasedIsFinal : Obligations.ReleasedIsFinal := by
  unfold Obligations.ReleasedIsFinal
  intro s hinv hlife
  have hne : s.life ≠ .active := by simp [hlife]
  obtain ⟨hidle, -⟩ := (hinv.unconfigured hne).idle
  refine ⟨fun w hready => acceptWord_of_faultCause (r := .useAfterRelease) hready hlife, ?_,
    fun sel hsel => readBank_not_active hne hsel, fun t hstep => ?_⟩
  · exact (statusWord_state s).trans (by rw [statusState, hlife])
  · exact ⟨(stepKeepsTheInvariant s t hinv hstep).line, step_keeps_wire_of_idle hstep hidle,
      step_keeps_released hinv hlife hstep⟩

end Sys2Proof.Machine
end

section
/-! PROOFS. Which step comes next, and TIMER's answer (spec/60_exceptions.md R223, R228): `pick` can choose every enabled
step, and only TIMER answers TransmissionTimeout. -/

namespace Sys2Proof.Machine

/-! ### The choice of the step -/

/-- No enabling condition reads the draws, so `pick` alone decides which of the enabled steps is taken (log entry 3). -/
theorem chosenMove_pick (timed isolated : Bool) (s : State) (q : Nat) :
    chosenMove timed isolated { s with draws := { s.draws with pick := q } }
      = (enabledMoves timed isolated s)[q % (enabledMoves timed isolated s).length]? := rfl

/-- Settles O13: an enabled step stands at a position of the list `pick` chooses from, and a step that goes on takes one
of that list or finds it empty. -/
theorem everyEnabledStepCanBeTaken : Obligations.EveryEnabledStepCanBeTaken := by
  unfold Obligations.EveryEnabledStepCanBeTaken
  refine ⟨fun s m henabled => ?_, fun s t hstep => ?_⟩
  · obtain ⟨p, hp, hget⟩ := List.mem_iff_getElem.1 ((mem_enabledMoves ..).2 henabled)
    refine ⟨p, hp, fun q hq => stepWith_chosen ?_⟩
    rw [chosenMove_pick, hq, List.getElem?_eq_getElem hp, hget]
  · rcases stepWith_next hstep with ⟨hnone, -, rfl⟩ | ⟨m, u, henabled, -, hrun, rfl⟩
    · exact .inl ⟨rfl, chosenMove_none hnone⟩
    · exact .inr ⟨m, u, henabled, hrun, rfl⟩

/-! ### TransmissionTimeout -/

/-- No command answers TransmissionTimeout in its accepting step. -/
theorem commandEffect_resp_ne_timeout (i : Instr) {s : State} (hnone : s.resp = none) (sf : Bool) (ope : BitVec 4) :
    (commandEffect i s).resp ≠ some (responseWord .transmissionTimeout sf ope) := by
  cases i with
  | configure variant div count clkHz =>
    rcases configureWith_cases variant div count clkHz s with ⟨-, heq⟩ | ⟨-, heq⟩ <;>
      simp [commandEffect, heq, responseWord_inj]
  | setPixel index r g b =>
    rcases setPixelCmd_cases index r g b s with ⟨-, heq⟩ | ⟨-, heq⟩ <;>
      simp [commandEffect, heq, responseWord_inj]
  | refresh => rcases refreshCmd_cases s with heq | heq <;> simp [commandEffect, heq, hnone]
  | clear => rcases clearCmd_cases s with heq | heq <;> simp [commandEffect, heq, hnone]
  | release =>
    cases hbusy : s.busy with
    | true => simp [commandEffect, releaseCmd_busy hbusy, hnone]
    | false => simp [commandEffect, releaseCmd_idle hbusy, responseWord_inj]

/-- TransmissionTimeout is TIMER's answer to the pending REFRESH or CLEAR while a frame is in flight (R168, R223). -/
theorem StepEffect.timeout_response {s u : State} {sf : Bool} {ope : BitVec 4} (he : StepEffect s u)
    (hnone : s.resp = none) (htimeout : u.resp = some (responseWord .transmissionTimeout sf ope)) :
    s.busy = true ∧ ∃ p, s.pend = some p ∧ p.op ≠ .release ∧ sf = (p.started && s.lastSf) ∧ ope = pendOpcode p.op
      ∧ u = respond .transmissionTimeout sf ope s := by
  cases he with
  | timeout p hbusy hpend hop hdue =>
    obtain ⟨-, rfl, rfl⟩ := responseWord_inj.1 (Option.some.inj htimeout)
    exact ⟨hbusy, p, hpend, hop, rfl, rfl, rfl⟩
  | command w rest i hhost hready hdecode hlife =>
    exact absurd htimeout (commandEffect_resp_ne_timeout i (s := { s with host := rest }) hnone sf ope)
  | complete hbusy hout =>
    rcases completeStep_cases s with ⟨p, -, -, heq⟩ | ⟨-, heq⟩
    · simp [heq, responseWord_inj] at htimeout
    · simp [heq, hnone] at htimeout
  | release st hidle hpend => simp [responseWord_inj] at htimeout
  | illegal w rest hhost hready hdecode hlife => simp [responseWord_inj] at htimeout
  | _ => simp [hnone] at htimeout

/-- Settles O58: the answer is TIMER's, whose step is `respond` and nothing else. -/
theorem timeoutAppearsOnlyFromTheTimer : Obligations.TimeoutAppearsOnlyFromTheTimer := by
  unfold Obligations.TimeoutAppearsOnlyFromTheTimer
  intro s t sf ope _ hstep hnone htimeout
  rcases step_effect hstep with rfl | ⟨u, he, rfl⟩
  · simp [hnone] at htimeout
  obtain ⟨hbusy, p, hpend, hop, hsf, hope, rfl⟩ := he.timeout_response hnone htimeout
  refine ⟨rfl, hbusy, p, hpend, ?_, hsf⟩
  rcases (PendOp.ne_release_iff p.op).1 hop with hrefresh | hclear
  · exact .inl ⟨hrefresh, by rw [hope, hrefresh]; rfl⟩
  · exact .inr ⟨hclear, by rw [hope, hclear]; rfl⟩

end Sys2Proof.Machine
end

section
/-! PROOFS. A HOST that writes before it has read the previous response (spec/70_reset_and_hazards.md R257), and how
far a derived duration is from its target (R261). -/

namespace Sys2Proof.Machine

/-! ### The stuck HOST -/

/-- A waiting state without a fault stops by name where HOST wants to write (R257, log entry 11). -/
theorem noStep_write {s : State} {w : CmdWord} {rest : List HostAct} (hhost : s.host = .write w :: rest)
    (hfault : s.fault = none) : noStep s = .fault .hostStuck := by
  simp [noStep, hfault, hhost]

/-- A HOST that writes over an unread response has no step, and with no command pending, no frame in flight and no
block reset due neither has any other agent. -/
theorem enabledMoves_write_unread {s : State} {w : CmdWord} {rest : List HostAct}
    (hhost : s.host = .write w :: rest) (hresp : s.resp ≠ none) (hpend : s.pend = none) (hidle : s.busy = false)
    (hresets : s.resets = 0) (timed isolated : Bool) : enabledMoves timed isolated s = [] := by
  have hready : portReady s = false := portReady_eq_false (.inr (.inl hresp))
  simp [enabledMoves, allMoves, moveEnabled, moveCondition, hostEnabled, framePending, releasePending,
    hhost, hready, hpend, hidle, hresets]

/-- Settles O10: no step is enabled, so the state waits or stops, and a word in HOST's hand makes it stop (log entry 11). -/
theorem writeBeforeReadIsStuck : Obligations.WriteBeforeReadIsStuck := by
  unfold Obligations.WriteBeforeReadIsStuck
  intro s w rest hhost hresp hpend hfault hidle hresets
  have hnone : chosenMove Config.timed Config.isolated s = none := by
    simp [chosenMove, enabledMoves_write_unread hhost hresp hpend hidle hresets]
  rw [step, stepWith, hnone]
  exact noStep_write hhost hfault

/-! ### Rounding -/

/-- `ceilDiv` is the least multiple that reaches the dividend: it is not short, and by less than one divisor over. -/
theorem ceilDiv_mul_bounds {b : Nat} (hb : 1 ≤ b) (a : Nat) :
    a ≤ ceilDiv a b * b ∧ ceilDiv a b * b < a + b := by
  have hle := Nat.div_mul_le_self (a + b - 1) b
  have hlt := Nat.lt_div_mul_add (a := a + b - 1) hb
  rw [ceilDiv]
  omega

/-- Division with halves rounded up is within half a divisor of the dividend. -/
theorem roundDiv_mul_bounds {b : Nat} (hb : 1 ≤ b) (a : Nat) :
    2 * ((2 * a + b) / (2 * b) * b) ≤ 2 * a + b ∧ 2 * a ≤ 2 * ((2 * a + b) / (2 * b) * b) + b := by
  have hle := Nat.div_mul_le_self (2 * a + b) (2 * b)
  have hlt := Nat.lt_div_mul_add (a := 2 * a + b) (b := 2 * b) (by omega)
  rw [Nat.mul_left_comm] at hle hlt
  omega

/-- Settles O17: in units of DIV * 10^9 a bit duration is rounded to the nearest (R102) and a reset up (R103). -/
theorem roundingBounds : Obligations.RoundingBounds := by
  unfold Obligations.RoundingBounds
  intro ns k d hd
  have htick : 1 ≤ d * 10 ^ 9 := Nat.mul_pos hd (by norm_num)
  refine ⟨?_, ceilDiv_mul_bounds htick (ns * k)⟩
  rw [bitTicks, Nat.mul_assoc 2 ns, Nat.mul_assoc 2 d]
  exact roundDiv_mul_bounds htick (ns * k)

end Sys2Proof.Machine
end
